-- ==== Sys2Proof/Word.lean ====
section
/-! DEFINITION. The words the manual treats as bits: a byte, a 16-bit word, a revision (0.5.5),
a session day (0.5.6), and the terminals' names A to H. -/

namespace Sys2Proof

/-- One byte of a frame, a console location or the configuration image (R179). -/
abbrev Byte := BitVec 8

/-- A 16-bit word: the frame check and the image sum (R175, R179). -/
abbrev Word16 := BitVec 16

/-- A revision number, compared modulo 4,096 (0.5.5). -/
abbrev Revision := BitVec 12

/-- A session day, counted modulo 256 (0.5.6). -/
abbrev Day := BitVec 8

/-- Terminals A to H are 0 to 7 (0.2, R25). -/
abbrev TerminalId := Fin 8

/-- Zones 0 to 15 (R95). -/
abbrev ZoneId := Fin 16

/-- Numbers of more than one byte stand high byte first (R179). -/
def ofBytes (bs : List Byte) : Nat :=
  bs.foldl (fun n b => n * 256 + b.toNat) 0

/-- The low `k` bytes of a number, high byte first (R179). -/
def toBytes : Nat → Nat → List Byte
  | 0, _ => []
  | k + 1, n => toBytes k (n / 256) ++ [BitVec.ofNat 8 n]

end Sys2Proof
end

