-- ==== Sys2Proof/Syntax.lean ====
section
/-! DEFINITION. The commands of the block: one constructor per row of spec/opcode_table.json, with the values the
event brings in from outside (the table gives no operand of its own: DESIGN CHOICE, log 5). -/

namespace Sys2Proof

inductive Instr where
  /-- FULL_RESET (R175): the RESET pin. -/
  | fullReset
  /-- CONFIG_ITEM_READ (R176): the bytes the serial memory gives next. -/
  | configItemRead (bytes : List Byte)
  /-- LOAD_COMPLETION (R178): the balance word, the last two bytes of the image. -/
  | loadCompletion (balance : Word16)
  /-- END_OF_TRANSMISSION (R64): the bytes of the transmission that has ended. -/
  | endOfTransmission (received : List Byte)
  /-- LINE_BUSY (R73): another station's transmission begins. -/
  | lineBusy
  /-- INTERFRAME_GAP_EXPIRY (R73). -/
  | interframeGapExpiry
  /-- SEND_COMPLETE (R74). -/
  | sendComplete
  /-- CLASH (R74). -/
  | clash
  /-- BACKOFF_EXPIRY (R75). -/
  | backoffExpiry
  /-- PACE_EXPIRY (R47). -/
  | paceExpiry
  /-- WAIT_EXPIRY (R50): the wait timer of the slot that holds the record. -/
  | waitExpiry (record : Nat)
  /-- HOLDOFF_EXPIRY (R56): the holdoff timer of the reply entry for the record. -/
  | holdoffExpiry (record : Nat)
  /-- BOARD_FORMATION_COMPLETION (R98). -/
  | boardFormationCompletion
  /-- RIBBON_FORMATION_COMPLETION (R132). -/
  | ribbonFormationCompletion
  /-- TERMINAL_FORMATION_COMPLETION (R151): at the terminal whose request is formed. -/
  | terminalFormationCompletion
  /-- SECOND_TIMER_EXPIRY (R79). -/
  | secondTimerExpiry
  /-- PANEL_WRITE_COMPLETION (R96): PRDY. -/
  | panelWriteCompletion
  /-- FLASH_TIMER_EXPIRY (R103): the flash timer of a position. -/
  | flashTimerExpiry (position : Nat)
  /-- ADVANCE_EXPIRY (R129), with TRDY as the head gives it. -/
  | advanceExpiry (headReady : Bool)
  /-- OUTPUT_RUN_COMPLETION (R146). -/
  | outputRunCompletion (terminal : TerminalId)
  /-- HIGHLIGHT_EXPIRY (R152): the highlight timer of row 1 to 16. -/
  | highlightExpiry (terminal : TerminalId) (row : Nat)
  /-- KEY_CHARACTER (R155): a character and whether it came with a framing fault. -/
  | keyCharacter (terminal : TerminalId) (code : Byte) (framingFault : Bool)
  /-- BACKSPACE (R155). -/
  | backspace (terminal : TerminalId)
  /-- SELECT_PAGE (R157): the return of P nn. -/
  | selectPage (terminal : TerminalId)
  /-- SELECT_WATCH (R157): the return of W. -/
  | selectWatch (terminal : TerminalId)
  /-- ADD_TO_WATCH (R158): the return of +SYM. -/
  | addToWatch (terminal : TerminalId)
  /-- REMOVE_FROM_WATCH (R158): the return of -SYM. -/
  | removeFromWatch (terminal : TerminalId)
  /-- SHOW_DETAIL (R154): the return of ?SYM. -/
  | showDetail (terminal : TerminalId)
  /-- ENTER_SALE (R165). -/
  | enterSale
  /-- ENTER_QUOTE (R165). -/
  | enterQuote
  /-- ENTER_STATE (R165). -/
  | enterState
  /-- ENTER_NOTICE (R166). -/
  | enterNotice
  /-- HOLD (R166). -/
  | hold
  /-- RELEASE (R166). -/
  | release
  /-- READ_RECORD (R170). -/
  | readRecord
  /-- SET_CLOCK (R80). -/
  | setClock
  /-- CLEAR_STATUS (R169). -/
  | clearStatus
  /-- ABORT_CLEAR (R164). -/
  | abortClear
  /-- REPAINT (R169). -/
  | repaint
  /-- BLANK (R169). -/
  | blank
  /-- WARM_RESTART (R173). -/
  | warmRestart
  /-- DATA_WRITE (R164). -/
  | dataWrite (value : Byte)
  /-- DATA_READ (R170). -/
  | dataRead
  /-- FLAGS_READ (R171). -/
  | flagsRead
  /-- MASK_WRITE (R172). -/
  | maskWrite (value : Byte)
  /-- IGNORED_REGISTER_WRITE (R161): a write to FLAGS. -/
  | ignoredRegisterWrite (value : Byte)
  /-- UNKNOWN_COMMAND (R156): a return of no known command form, overflowed or empty. -/
  | unknownCommand (terminal : TerminalId)
  /-- UNKNOWN_COMMAND_CODE (R162): a COMMAND write of a code that names no command. -/
  | unknownCommandCode (code : Byte)
  deriving DecidableEq, Repr

end Sys2Proof
end

