-- ==== Sys2Proof/Config.lean ====
section
/-! DEFINITION. What the part fixes: capacities and limits, each with the rule that gives it. The spec leaves no
value of a result undefined, so there is no free value here. -/

namespace Sys2Proof.Config

/-- R4: records and directory entries. -/
def maxRecords : Nat := 1024
/-- 0.5.1: the largest price. -/
def maxPrice : Nat := 639999
/-- 0.5.2: the largest sale volume. -/
def maxSaleVolume : Nat := 9999999
/-- 0.5.2, R13: the largest cumulative volume. -/
def maxDayVolume : Nat := 999999999
/-- 0.5.2, R13: the largest sale count. -/
def maxSaleCount : Nat := 65535
/-- 0.5.2: the largest quote size. -/
def maxSize : Nat := 9999
/-- 0.5.2: a sale below this is an odd lot. -/
def roundLot : Nat := 100
/-- 0.5.4: seconds in a day. -/
def daySeconds : Nat := 86400
/-- R47: outstanding slots. -/
def recallSlots : Nat := 4
/-- R54: reply entries. -/
def replyPlaces : Nat := 8
/-- R50: sends of one recall. -/
def recallSends : Nat := 3
/-- R69: places of the Transmit Queue. -/
def queuePlaces : Nat := 16
/-- R74: attempts of one frame. -/
def sendAttempts : Nat := 8
/-- R118: print slots. -/
def printSlots : Nat := 512
/-- R118: the reserve of the Print Pool. -/
def reserveSlots : Nat := 32
/-- R123: merges into one entry. -/
def maxMerged : Nat := 255
/-- R125: the omitted count's limit. -/
def maxOmitted : Nat := 9999
/-- R144: watch-list places. -/
def watchPlaces : Nat := 16
/-- R155: keyboard-line places. -/
def keyPlaces : Nat := 16
/-- 0.4, R93: panel addresses on the chain. -/
def panels : Nat := 128
/-- R93: cells of one panel. -/
def panelCells : Nat := 80
/-- R177: characters per second of the fault blank's 250 ms timer. -/
def faultSpeed : Nat := 4

end Sys2Proof.Config
end

