-- ==== Sys2Proof/Machine/State.lean ====
section
/-! DEFINITION. The state of the part, block by block (0.3), as plain data, and the state right after a full reset.
Every field names the rule that gives it. Views of one stored thing (ATTN, LEN, STATUS) are computed, not stored. -/

namespace Sys2Proof.Machine

/-! ### Words of the displays -/

/-- One character cell's content (0.5.7): a character by its code (R179), a count of eighths 1 to 7 as a single-cell
fraction glyph, or an arrow. -/
inductive Glyph where
  | ch (code : Byte)
  | eighths (count : Nat)
  | upArrow
  | downArrow
  deriving DecidableEq, Repr

/-- One cell of a board: its character, its blink and its fine-mark lamp (2.7, R94). -/
structure PanelCell where
  glyph : Glyph
  flashing : Bool
  fineMark : Bool
  deriving DecidableEq, Repr

/-- One character sent on a terminal line (Table 8-3); `code` is a line or column code. -/
inductive OutChar where
  | glyph (g : Glyph)
  | esc
  | code (n : Nat)
  | cr
  | lf
  | bel
  deriving DecidableEq, Repr

/-- A symbol's five padded characters (0.5.3). -/
structure Symbol where
  c1 : Byte
  c2 : Byte
  c3 : Byte
  c4 : Byte
  c5 : Byte
  deriving DecidableEq, Repr

/-! ### Instrument records (Section 1) -/

/-- The five record states (Table 1-1). -/
inductive InstrState where
  | notOpened | delayed | trading | halted | closed
  deriving DecidableEq, Repr

/-- The five tick values (Table 1-1). -/
inductive Tick where
  | none | up | down | zeroUp | zeroDown
  deriving DecidableEq, Repr

/-- The four recall states (Table 1-1). -/
inductive RecallState where
  | none | listed | outstanding | unanswered
  deriving DecidableEq, Repr

/-- One side of a quotation: a price with its size (R2). -/
structure Side where
  price : Nat
  size : Nat
  deriving DecidableEq, Repr

/-- The displayed fields of a record (R24). A terminal's snapshot is a copy of them (R144). -/
structure Displayed where
  state : InstrState
  previousClose : Option Nat
  opening : Option Nat
  high : Option Nat
  low : Option Nat
  last : Option Nat
  tick : Tick
  volume : Nat
  saturated : Bool
  saleCount : Nat
  bid : Option Side
  ask : Option Side
  doubtful : Bool
  deriving DecidableEq, Repr

/-- The instrument record (Table 1-1): the configured fields, what frames wrote, and the displayed fields. -/
structure Record where
  symbol : Symbol
  home : Option Nat
  priceStep : Nat
  tapeExclude : Bool
  heard : Bool
  revision : Option Revision
  recordDay : Option Day
  shown : Displayed
  recallState : RecallState
  lastWhole : Option Nat
  deriving DecidableEq, Repr

/-! ### Frame contents (Tables 4-1, 10-2); codes that an owner judges stay numbers -/

structure SaleContents where
  symbol : Symbol
  day : Day
  revision : Nat
  tradeTime : Nat
  price : Nat
  volume : Nat
  deriving DecidableEq, Repr

structure QuoteContents where
  symbol : Symbol
  day : Day
  revision : Nat
  presence : Byte
  bid : Option Side
  ask : Option Side
  deriving DecidableEq, Repr

structure StateContents where
  symbol : Symbol
  day : Day
  revision : Nat
  code : Nat
  deriving DecidableEq, Repr

structure ReplyContents where
  symbol : Symbol
  day : Day
  revision : Nat
  stateCode : Nat
  tickCode : Nat
  saturated : Bool
  volume : Nat
  saleCount : Nat
  previousClose : Option Nat
  opening : Option Nat
  high : Option Nat
  low : Option Nat
  last : Option Nat
  bid : Option Side
  ask : Option Side
  deriving DecidableEq, Repr

/-- The contents that the Record Store judges (R6). -/
inductive Contents where
  | sale (c : SaleContents)
  | quote (c : QuoteContents)
  | state (c : StateContents)
  | reply (c : ReplyContents)
  deriving DecidableEq, Repr

/-- The body of a received frame, by kind (Table 4-1). -/
inductive FrameBody where
  | sale (c : SaleContents)
  | quote (c : QuoteContents)
  | state (c : StateContents)
  | recallFor (symbol : Symbol) (day : Day)
  | reply (c : ReplyContents)
  | notice (urgency : Nat) (text : List Byte)
  | session (day : Day) (phase : Nat)
  | clock (weekday hours minutes seconds : Nat)
  | hold (group action : Nat)
  deriving DecidableEq, Repr

/-! ### Floor Line (Section 4) -/

/-- A frame as its owner offered it (R69): RECALL, REPLY and CLOCK are completed when sending begins (R71); the
first two name their record. -/
inductive TxBody where
  | sale (c : SaleContents)
  | quote (c : QuoteContents)
  | state (c : StateContents)
  | recallFor (record : Nat)
  | reply (record : Nat)
  | notice (urgency : Nat) (text : List Byte)
  | session (day : Day) (phase : Nat)
  | clock
  | hold (group action : Nat)
  deriving DecidableEq, Repr

/-- A queued frame: its age, the order of its arrival, names it (R69, R72). -/
structure QueuedFrame where
  age : Nat
  body : TxBody
  deriving DecidableEq, Repr

/-- The transmitter's states other than IDLE (Table 4-3); BACKOFF with its number of slot times (R75). -/
inductive TxPhase where
  | deferring
  | sending
  | backoff (slots : Nat)
  deriving DecidableEq, Repr

/-- The frame being sent (R71): the bytes completed at its taking, its attempt count, and the transmitter's state. -/
structure Sending where
  frame : QueuedFrame
  bytes : List Byte
  attempt : Nat
  phase : TxPhase
  deriving DecidableEq, Repr

/-- The line as sensed (R64): quiet, or busy with a transmission that will or will not be judged at its end. -/
inductive LineSense where
  | quiet
  | busy (judged : Bool)
  deriving DecidableEq, Repr

/-- Line Interface and Transmit Queue. `current = none` is transmitter IDLE. -/
structure Line where
  sense : LineSense
  gapRunning : Bool
  listenOnly : Bool
  queue : List QueuedFrame
  nextAge : Nat
  current : Option Sending
  deriving DecidableEq, Repr

/-! ### Recall Unit (Section 3) -/

/-- The phase of an outstanding slot (Table 3-1); AWAITING OUTCOME names the slot's frame (R49). -/
inductive SlotPhase where
  | awaitingOutcome (frame : Nat)
  | waiting
  deriving DecidableEq, Repr

structure Slot where
  record : Nat
  sendCount : Nat
  phase : SlotPhase
  deriving DecidableEq, Repr

/-- The phase of a reply entry (R55): HOLDING with its holdoff length in ms, or QUEUED with its frame. -/
inductive ReplyPhase where
  | holding (ms : Nat)
  | queued (frame : Nat)
  deriving DecidableEq, Repr

structure ReplyEntry where
  record : Nat
  phase : ReplyPhase
  deriving DecidableEq, Repr

/-- The Recall Unit. `slots` holds the slots in use in order of filling, oldest first. -/
structure Recall where
  list : List Nat
  slots : List Slot
  replies : List ReplyEntry
  paceRunning : Bool
  deriving DecidableEq, Repr

/-! ### Session Clock and Timetable (Section 5) -/

structure TimeOfDay where
  weekday : Nat
  seconds : Nat
  deriving DecidableEq, Repr

inductive Phase where
  | opened
  | closed
  deriving DecidableEq, Repr

structure SessionDay where
  day : Day
  phase : Phase
  deriving DecidableEq, Repr

inductive TimetableAction where
  | openSession | closeSession | tapeTime | repaint | sendClock
  deriving DecidableEq, Repr

/-- A Timetable entry (Table 5-1): the weekday mask as the image gives it, and ANY as none. -/
structure TimetableEntry where
  weekdays : Byte
  hour : Option Nat
  minute : Option Nat
  action : TimetableAction
  deriving DecidableEq, Repr

/-- Session Clock and Timetable. `time = none` is UNSET; the second timer runs exactly while it is SET (R79).
`session = none` is day unset and phase UNSET (R83). -/
structure Clock where
  time : Option TimeOfDay
  session : Option SessionDay
  timetable : List TimetableEntry
  deriving DecidableEq, Repr

/-! ### Board Writer (Section 6) -/

inductive FieldKind where
  | symbol | last | change | volume | bid | ask | high | low | mark | arrow
  deriving DecidableEq, Repr

/-- A layout (R94): a field layout or a LEGEND text. -/
inductive Layout where
  | fields (fs : List (FieldKind × Nat))
  | legend (text : List Byte)
  deriving DecidableEq, Repr

/-- A position (R93) with its flash state (R102). -/
structure Position where
  record : Option Nat
  layout : Nat
  zone : ZoneId
  panel : Nat
  firstCell : Nat
  flash : Bool
  deriving DecidableEq, Repr

/-- A zone (R95). -/
structure Zone where
  fixed : Bool
  held : Bool
  group : Option Nat
  refreshOwed : Bool
  deriving DecidableEq, Repr

inductive Source where
  | queue
  | cursor
  deriving DecidableEq, Repr

/-- The operation states (R97), and the fault blank's write to one panel (R177). -/
inductive BoardOp where
  | idle
  | forming (position : Nat) (source : Source)
  | writing (position : Nat) (source : Source) (cells : List PanelCell)
  | blanking (position : Nat)
  | faultBlanking (panel : Nat)
  deriving DecidableEq, Repr

/-- Layout numbers 1 to 8 are the places of `layouts`. `panels` holds what the panels last latched, by
80 × panel address + cell, keys strictly rising; a key not listed has not been written since power was applied. -/
structure Board where
  positions : List Position
  layouts : List (Option Layout)
  zones : Vector Zone 16
  dirty : List Nat
  op : BoardOp
  blankPending : Bool
  repaintHeld : Bool
  cursor : Option Nat
  nextSource : Source
  panels : List (Nat × PanelCell)
  deriving DecidableEq, Repr

/-! ### Ticker ribbon (Section 7) -/

inductive Band where
  | urgent
  | routine
  deriving DecidableEq, Repr

inductive EntryStatus where
  | waiting
  | onRibbon
  | suspended
  deriving DecidableEq, Repr

/-- A SALE entry's fields (Table 7-1). -/
structure SaleEntry where
  symbol : Symbol
  price : Nat
  volume : Nat
  tradeTime : Nat
  merged : Nat
  deriving DecidableEq, Repr

/-- What an entry holds, by kind and source (Table 7-1); an OMITTED entry without number is unbound. -/
inductive EntryContent where
  | sale (e : SaleEntry)
  | notice (text : List Byte)
  | tapeTime (hour minute : Nat)
  | late (minutes : Nat)
  | current
  | omitted (number : Option Nat)
  deriving DecidableEq, Repr

/-- A backlog entry in its print slot (R118, R119). -/
structure Entry where
  slot : Nat
  status : EntryStatus
  content : EntryContent
  text : Option (List Glyph)
  deriving DecidableEq, Repr

/-- The crawl states (Table 7-2): the place in the text from 0; the separator blanks sent, and whether they follow a
suspension (R135). -/
inductive Crawl where
  | idle
  | awaitingText
  | printing (place : Nat)
  | separating (sent : Nat) (suspended : Bool)
  deriving DecidableEq, Repr

/-- Print Pool and Ribbon Feeder. `advance` is the crawl speed in characters per second of the advance timer's
present run, none while it is stopped (R129); `strobed` what the latest advance expiry sent to the head. -/
structure Ribbon where
  free : List Nat
  urgent : List Entry
  routine : List Entry
  crawl : Crawl
  suspensionPending : Bool
  request : Option Nat
  advance : Option Nat
  countdown : Nat
  tapeLag : Nat
  announced : Option Nat
  omitted : Nat
  level : Nat
  strobed : Option Glyph
  deriving DecidableEq, Repr

/-! ### Terminal Server (Section 8) -/

inductive TermState where
  | unused | drawing | live
  deriving DecidableEq, Repr

inductive Selection where
  | page (n : Nat)
  | watch
  deriving DecidableEq, Repr

/-- The ten row fields (R38) as a set. -/
structure RowFields where
  mark : Bool
  arrow : Bool
  symbol : Bool
  last : Bool
  change : Bool
  volume : Bool
  bid : Bool
  ask : Bool
  high : Bool
  low : Bool
  deriving DecidableEq, Repr

/-- A row of the row set (Table 8-2): its record, its snapshot, whether it is in the pending row set, its changed
fields, its lit fields and whether its highlight timer runs. -/
structure Row where
  record : Option Nat
  snapshot : Option Displayed
  pending : Bool
  changed : RowFields
  lit : RowFields
  highlight : Bool
  deriving DecidableEq, Repr

structure Message where
  text : List Byte
  urgent : Bool
  deriving DecidableEq, Repr

/-- What line 24 shows (R155, R156). -/
inductive CommandShows where
  | keys | unknown | already | full | notListed
  deriving DecidableEq, Repr

/-- The steps of a terminal (R146); a live step carries its new fields (R151). -/
inductive TermJob where
  | heading
  | command
  | message
  | detail (symbol : Symbol)
  | draw (row : Nat)
  | live (row : Nat) (newFields : RowFields)
  | faultClear
  deriving DecidableEq, Repr

/-- A step in flight: its Formatter request, or the output run on the line (R145, R146). -/
inductive TermStep where
  | request (job : TermJob)
  | run (job : TermJob) (chars : List OutChar)
  deriving DecidableEq, Repr

/-- A terminal record (Table 8-2). Rows are numbered from 0 in the model's lists; `drawCursor` counts from 1. -/
structure Terminal where
  state : TermState
  selection : Selection
  redrawOwed : Bool
  watch : List Symbol
  rows : List Row
  drawCursor : Nat
  message : Option Message
  detailOwed : Option Symbol
  keyLine : List Byte
  overflow : Bool
  shows : CommandShows
  commandOwed : Bool
  bellOwed : Bool
  messageOwed : Bool
  step : Option TermStep
  deriving DecidableEq, Repr

/-! ### Price Formatter (Section 2) -/

/-- A request for the text of one item (2.1). -/
inductive Request where
  | ribbon (slot : Nat)
  | board (position : Nat)
  | terminal (t : TerminalId) (job : TermJob)
  deriving DecidableEq, Repr

/-- The text of the values read at the start of a formation (R27). A print of a held symbol carries its record and
its whole part (R42); a row its ten fields in order (R38). -/
inductive FormedText where
  | print (text : List Glyph) (whole : Option (Nat × Nat))
  | cells (cs : List PanelCell)
  | row (fields : List (List Glyph))
  | detail (line1 line2 line3 : List Glyph)
  deriving DecidableEq, Repr

/-- The Formatter (R25): FORMING with the request and its text, or IDLE; one waiting place per requester. -/
structure Formatter where
  forming : Option (Request × FormedText)
  ribbonWait : Option Nat
  boardWait : Option Nat
  termWait : Vector (Option TermJob) 8
  lastServed : TerminalId
  deriving DecidableEq, Repr

/-! ### Console Port (Section 9) -/

/-- The thirteen commands of Table 10-3, and every other code. -/
inductive ConsoleCommand where
  | enterSale | enterQuote | enterState | enterNotice | hold | release | readRecord
  | clearStatus | abortClear | setClock | repaint | blank | warmRestart | unknown
  deriving DecidableEq, Repr

/-- The result codes (Table 9-2). -/
inductive ResultCode where
  | none | sent | lineFail | queueFull | notHome | notCurrent | badSymbol | badPrice | badVolume | badQuote
  | badState | notOpen | listenOnly | zoneFixed | badEntry | commandIgnored | done
  deriving DecidableEq, Repr

/-- The status states (Table 9-1), and the port while the image is read (R174). LOADING holds the command, its
declared length once written, and the entry buffer; BUSY the entry's frame. -/
inductive PortState where
  | readingImage
  | ready
  | loading (command : ConsoleCommand) (declared : Option Nat) (buffer : List Byte)
  | busy (frame : Nat)
  | aborted
  | configFault
  deriving DecidableEq, Repr

/-- The Console Port. `flags` and `mask` stand in the bits of Table 10-3; `note` is the frame being sent that a warm
restart left (R168); `busByte` the byte last driven by a DATA or FLAGS read. -/
structure Console where
  port : PortState
  result : ResultCode
  readBuffer : Option (List Byte)
  readPointer : Nat
  flags : Byte
  mask : Byte
  note : Option Nat
  busByte : Byte
  deriving DecidableEq, Repr

/-! ### Configuration Loader (Section 10) -/

/-- The header settings (Table 10-5). -/
structure Settings where
  station : Nat
  transmitEnabled : Bool
  answerEnabled : Bool
  clockSource : Bool
  blankAtClose : Bool
  terminalsInUse : Byte
  baseSpeed : Nat
  samplePeriod : Nat
  lateThreshold : Nat
  flashHold : Nat
  highlightHold : Nat
  recallPace : Nat
  heldOnly : Bool
  deriving DecidableEq, Repr

/-- Items still to be read, section by section in the order of the image (R175). -/
structure ItemCounts where
  instruments : Nat
  layouts : Nat
  zones : Nat
  positions : Nat
  pages : Nat
  timetable : Nat
  deriving DecidableEq, Repr

/-- Where the load stands: `locked` is the configuration lock, `fault` CONFIG FAULT. -/
inductive LoadPhase where
  | header
  | items
  | locked
  | fault
  deriving DecidableEq, Repr

/-- The Loader: bytes read that do not yet make an item, the running sum of the bytes of the items taken and whether
their number is odd (R175), and the zone numbers already given (R176). -/
structure Loader where
  phase : LoadPhase
  counts : ItemCounts
  buffer : List Byte
  sum : Word16
  odd : Bool
  zonesGiven : List ZoneId
  deriving DecidableEq, Repr

/-- A configured page (R176): its number, and its rows, each naming a record or none. -/
structure Page where
  number : Nat
  rows : List (Option Nat)
  deriving DecidableEq, Repr

/-! ### The part -/

/-- The whole part (0.3). -/
structure Part where
  settings : Settings
  directory : List (Symbol × Nat)
  records : List Record
  pages : List Page
  recalls : Recall
  line : Line
  clock : Clock
  formatter : Formatter
  board : Board
  ribbon : Ribbon
  terminals : Vector Terminal 8
  console : Console
  loader : Loader
  deriving DecidableEq, Repr

/-- The machine: the part, and the commands that wait, first in, first out (log 1). -/
structure State where
  part : Part
  pending : List Instr
  deriving DecidableEq, Repr

/-- No meaning of this model ends in a fault: every event of the part has a next state, and what the manual calls a
fault (CONFIG FAULT, LINE FAIL) is a state it describes. The one constructor is raised by no command; it is safe. -/
inductive Fault where
  /-- Raised by nothing: kept so that the type has a name to print. Safe. -/
  | unreachable
  deriving DecidableEq, Repr

/-- Why a command has no meaning. -/
inductive Refusal where
  /-- Raised by an arm of exec whose command has no meaning yet; safe. No arm raises it now. -/
  | notModelled (mnemonic : String)
  deriving DecidableEq, Repr

/-! ### Values after a full reset, while the image is read -/

/-- The set of row fields that holds none. -/
def RowFields.empty : RowFields :=
  ⟨false, false, false, false, false, false, false, false, false, false⟩

/-- R28. -/
def Formatter.reset : Formatter :=
  { forming := none, ribbonWait := none, boardWait := none, termWait := Vector.replicate 8 none, lastServed := 7 }

/-- R46: nothing listed before the sweep; slots free, Reply List empty, pace timer stopped. -/
def Recall.reset : Recall :=
  { list := [], slots := [], replies := [], paceRunning := false }

/-- R77; the line sense and listen-only before the lock are DESIGN CHOICE (logs 9, 10). -/
def Line.reset : Line :=
  { sense := .quiet, gapRunning := false, listenOnly := false, queue := [], nextAge := 0, current := none }

/-- R92. -/
def Clock.reset : Clock :=
  { time := none, session := none, timetable := [] }

/-- R95: a zone that no item gives. -/
def Zone.reset : Zone :=
  { fixed := false, held := false, group := none, refreshOwed := false }

/-- R116; nothing is known of the panels (log 13). -/
def Board.reset : Board :=
  { positions := [], layouts := [], zones := Vector.replicate 16 Zone.reset, dirty := [], op := .idle,
    blankPending := false, repaintHeld := false, cursor := none, nextSource := .queue, panels := [] }

/-- R143; the advance timer starts and the countdown is set at the lock (log 10). -/
def Ribbon.reset : Ribbon :=
  { free := List.range 512, urgent := [], routine := [], crawl := .idle, suspensionPending := false, request := none,
    advance := none, countdown := 1, tapeLag := 0, announced := none, omitted := 0, level := 0, strobed := none }

/-- R159: UNUSED until the lock puts it in use. -/
def Terminal.reset : Terminal :=
  { state := .unused, selection := .page 1, redrawOwed := false, watch := [], rows := [], drawCursor := 1,
    message := none, detailOwed := none, keyLine := [], overflow := false, shows := .keys, commandOwed := false,
    bellOwed := false, messageOwed := false, step := none }

/-- R174. -/
def Console.reset : Console :=
  { port := .readingImage, result := .none, readBuffer := none, readPointer := 0, flags := 0, mask := 0, note := none,
    busByte := 0 }

/-- Header settings before the header is read: DESIGN CHOICE (log 10). -/
def Settings.reset : Settings :=
  { station := 0, transmitEnabled := false, answerEnabled := false, clockSource := false, blankAtClose := false,
    terminalsInUse := 0, baseSpeed := 0, samplePeriod := 0, lateThreshold := 0, flashHold := 0, highlightHold := 0,
    recallPace := 0, heldOnly := false }

/-- R175: the load starts at the image's first byte. -/
def Loader.reset : Loader :=
  { phase := .header, counts := ⟨0, 0, 0, 0, 0, 0⟩, buffer := [], sum := 0, odd := false, zonesGiven := [] }

/-- The part right after the RESET pin: everything abandoned, the load started (R175, R174, R77, R92, R116, R143, R159). -/
def Part.reset : Part :=
  { settings := .reset, directory := [], records := [], pages := [], recalls := .reset, line := .reset, clock := .reset,
    formatter := .reset, board := .reset, ribbon := .reset, terminals := Vector.replicate 8 .reset, console := .reset,
    loader := .reset }

/-- The machine right after reset: no command waits. -/
def State.reset : State :=
  { part := .reset, pending := [] }

end Sys2Proof.Machine
end

