-- ==== Sys2Proof/Machine/Ops.lean ====
section
/-! DEFINITION. Shared operations: symbols and lookups (R5), the revision circle (0.5.5), codes of states and ticks
(R179), and the writes to one record, terminal or the whole part that every block uses. -/

namespace Sys2Proof.Machine

/-! ### Symbols -/

/-- A capital letter A to Z (R179). -/
def isCapital (b : Byte) : Bool :=
  decide (65 ≤ b.toNat) && decide (b.toNat ≤ 90)

/-- The code of a space (R179). -/
def spaceCode : Byte := 32

def Symbol.bytes (s : Symbol) : List Byte :=
  [s.c1, s.c2, s.c3, s.c4, s.c5]

/-- Five characters as a symbol; characters that are missing are spaces (0.5.3). -/
def Symbol.ofList (bs : List Byte) : Symbol :=
  ⟨bs.getD 0 spaceCode, bs.getD 1 spaceCode, bs.getD 2 spaceCode, bs.getD 3 spaceCode, bs.getD 4 spaceCode⟩

/-- The letters without padding. -/
def Symbol.letters (s : Symbol) : List Byte :=
  s.bytes.takeWhile isCapital

/-- R8: one to five letters followed by spaces. -/
def Symbol.wellFormed (s : Symbol) : Bool :=
  isCapital s.c1 && (s.bytes.dropWhile isCapital).all (· == spaceCode)

/-- The order of symbols: letter by letter, space before A (0.5.3). -/
def Symbol.before (a b : Symbol) : Bool :=
  decide (ofBytes a.bytes < ofBytes b.bytes)

/-- R5: the record index of a held symbol. -/
def lookupSymbol (directory : List (Symbol × Nat)) (s : Symbol) : Option Nat :=
  if s.wellFormed then (directory.find? fun e => e.1 == s).map (·.2) else none

def Part.lookup (p : Part) (s : Symbol) : Option Nat :=
  lookupSymbol p.directory s

/-- R4: a new entry at its place in symbol order. -/
def insertSymbol (s : Symbol) (i : Nat) : List (Symbol × Nat) → List (Symbol × Nat)
  | [] => [(s, i)]
  | e :: rest => if s.before e.1 then (s, i) :: e :: rest else e :: insertSymbol s i rest

/-! ### Revisions -/

/-- 0.5.5: the distance *d* = (*f* − *r*) mod 4,096. -/
def revisionDistance (f r : Revision) : Nat :=
  (f - r).toNat

/-! ### Codes (R179) -/

def InstrState.code : InstrState → Nat
  | .notOpened => 0
  | .delayed => 1
  | .trading => 2
  | .halted => 3
  | .closed => 4

def InstrState.ofCode : Nat → Option InstrState
  | 0 => some .notOpened
  | 1 => some .delayed
  | 2 => some .trading
  | 3 => some .halted
  | 4 => some .closed
  | _ => none

def Tick.code : Tick → Nat
  | .none => 0
  | .up => 1
  | .down => 2
  | .zeroUp => 3
  | .zeroDown => 4

/-- R179: the tick codes are 0 to 4; a REPLY with another is malformed (Table 1-3). -/
def Tick.ofCode : Nat → Option Tick
  | 0 => some .none
  | 1 => some .up
  | 2 => some .down
  | 3 => some .zeroUp
  | 4 => some .zeroDown
  | _ => Option.none

def RecallState.code : RecallState → Nat
  | .none => 0
  | .listed => 1
  | .outstanding => 2
  | .unanswered => 3

/-! ### Records -/

/-- Table 1-2: the displayed fields after a full reset. -/
def Displayed.fresh : Displayed :=
  { state := .notOpened, previousClose := none, opening := none, high := none, low := none, last := none,
    tick := .none, volume := 0, saturated := false, saleCount := 0, bid := none, ask := none, doubtful := true }

/-- Table 1-2: a record with its configured fields; the start-up sweep makes its recall state LISTED (R46). -/
def Record.fresh (symbol : Symbol) (home : Option Nat) (priceStep : Nat) (tapeExclude : Bool) : Record :=
  { symbol := symbol, home := home, priceStep := priceStep, tapeExclude := tapeExclude, heard := false,
    revision := none, recordDay := none, shown := .fresh, recallState := .none, lastWhole := none }

/-! ### Writes -/

/-- The part runs: the configuration lock is set (R178). -/
def Part.running (p : Part) : Bool :=
  p.loader.phase == .locked

/-- One record changed, by its index; an index that has no record names none (R1). -/
def Part.modifyRecord (i : Nat) (f : Record → Record) (p : Part) : Part :=
  { p with records := p.records.modify i f }

/-- R7: the recall state of a record, written at the Recall Unit's request. -/
def Part.setRecallState (i : Nat) (rs : RecallState) (p : Part) : Part :=
  p.modifyRecord i fun r => { r with recallState := rs }

def Part.setTerminal (t : TerminalId) (x : Terminal) (p : Part) : Part :=
  { p with terminals := p.terminals.set t.val x t.isLt }

def Part.terminal (p : Part) (t : TerminalId) : Terminal :=
  p.terminals.get t

/-- The session day, when set (R83). -/
def Part.day (p : Part) : Option Day :=
  p.clock.session.map (·.day)

/-- An event of a running part; while the image is read and in CONFIG FAULT the block concerned is off (R175, R177). -/
def Part.whenRunning (f : Part → Part) (p : Part) : Part :=
  if p.running then f p else p

/-- A command's effect on the part, the queue of waiting commands left alone. -/
def State.onPart (f : Part → Part) (s : State) : State :=
  { s with part := f s.part }

/-- The eight terminals in order A to H. -/
def allTerminals : List TerminalId :=
  [0, 1, 2, 3, 4, 5, 6, 7]

end Sys2Proof.Machine
end

