-- ==== Sys2Proof/Machine/Flags.lean ====
section
/-! DEFINITION. Event flags, mask and ATTN (R171, R172), and the codes of STATUS (Table 10-3). -/

namespace Sys2Proof.Machine

/-- The six event flags in the bits of FLAGS (Table 10-3). -/
inductive EventFlag where
  | depletion | tapeLate | duplicateStation | recallUnanswered | configWarning | printsOmitted
  deriving DecidableEq, Repr

def EventFlag.bit : EventFlag → Byte
  | .depletion => 1
  | .tapeLate => 2
  | .duplicateStation => 4
  | .recallUnanswered => 8
  | .configWarning => 16
  | .printsOmitted => 32

/-- R171: a raised flag becomes SET, and one already SET stays SET. -/
def raiseFlag (f : EventFlag) (flags : Byte) : Byte :=
  flags ||| f.bit

def Part.raise (f : EventFlag) (p : Part) : Part :=
  { p with console := { p.console with flags := raiseFlag f p.console.flags } }

/-- R172: ATTN is asserted while a SET flag has its enable set. -/
def Console.attn (c : Console) : Bool :=
  c.flags &&& c.mask != 0

/-- The six enables of a mask byte (Table 10-3). -/
def enableBits : Byte := 0x3F

/-- R162, R174: the state code of STATUS bits 7 to 5. -/
def PortState.code : PortState → Nat
  | .ready => 0
  | .loading _ _ _ => 1
  | .busy _ => 2
  | .readingImage => 2
  | .aborted => 3
  | .configFault => 4

/-- R163: the result codes in the order of Table 9-2. -/
def ResultCode.code : ResultCode → Nat
  | .none => 0
  | .sent => 1
  | .lineFail => 2
  | .queueFull => 3
  | .notHome => 4
  | .notCurrent => 5
  | .badSymbol => 6
  | .badPrice => 7
  | .badVolume => 8
  | .badQuote => 9
  | .badState => 10
  | .notOpen => 11
  | .listenOnly => 12
  | .zoneFixed => 13
  | .badEntry => 14
  | .commandIgnored => 15
  | .done => 16

/-- What a STATUS read returns; the read changes nothing (R161). -/
def Console.statusByte (c : Console) : Byte :=
  BitVec.ofNat 8 (c.port.code * 32 + c.result.code)

/-- What a MASK read returns; the read changes nothing (R161, R174). -/
def Console.maskByte (c : Console) : Byte :=
  if c.port = .readingImage then 0 else c.mask

/-- LEN is asserted while the transmitter is SENDING (4.5). -/
def Line.driverEnabled (l : Line) : Bool :=
  match l.current with
  | some s => s.phase == .sending
  | none => false

end Sys2Proof.Machine
end

