-- ==== Sys2Proof/Machine/Operands.lean ====
section
/-! DEFINITION. The layouts that a peer, software or the configuration memory sees (R179, Tables 10-1 to 10-5): frames
read and written, console bodies, the record copy, and the items of the configuration image. -/

namespace Sys2Proof.Machine

/-- The number in `len` bytes from byte `at`. -/
def field (bs : List Byte) (start len : Nat) : Nat :=
  ofBytes ((bs.drop start).take len)

def byteAt (bs : List Byte) (i : Nat) : Byte :=
  bs.getD i 0

/-! ### Frame bodies (Table 10-2) -/

/-- A side: price 3, size 2. -/
def readSide (bs : List Byte) (start : Nat) : Side :=
  ⟨field bs start 3, field bs (start + 3) 2⟩

/-- A side that the presence bit gives. -/
def sideIf (present : Bool) (bs : List Byte) (start : Nat) : Option Side :=
  if present then some (readSide bs start) else none

def priceIf (present : Bool) (bs : List Byte) (start : Nat) : Option Nat :=
  if present then some (field bs start 3) else none

/-- How many bytes an optional field takes. -/
def sizeIf (present : Bool) (n : Nat) : Nat :=
  if present then n else 0

/-- The length of a QUOTE body, or of an ENTER QUOTE body with `base` 6, as its presence byte gives. -/
def quoteLength (base : Nat) (presence : Byte) : Nat :=
  base + sizeIf (presence.getLsbD 0) 5 + sizeIf (presence.getLsbD 1) 5

/-- Bits 2 to 7 of a QUOTE presence byte (R8). -/
def presenceSpare (presence : Byte) : Bool :=
  presence &&& 0xFC != 0

def readSale (b : List Byte) : SaleContents :=
  { symbol := .ofList b, day := byteAt b 5, revision := field b 6 2, tradeTime := field b 8 3, price := field b 11 3,
    volume := field b 14 3 }

def readQuote (b : List Byte) : QuoteContents :=
  let pr := byteAt b 8
  { symbol := .ofList b, day := byteAt b 5, revision := field b 6 2, presence := pr,
    bid := sideIf (pr.getLsbD 0) b 9, ask := sideIf (pr.getLsbD 1) b (9 + sizeIf (pr.getLsbD 0) 5) }

def readStateFrame (b : List Byte) : StateContents :=
  { symbol := .ofList b, day := byteAt b 5, revision := field b 6 2, code := field b 8 1 }

/-- Where each optional field of a REPLY begins: `k` of the presence bits 0 to 6 stand before it. -/
def replyOffset (pr : Byte) (k : Nat) : Nat :=
  17 + ((List.range k).map fun i => sizeIf (pr.getLsbD i) (if i < 5 then 3 else 5)).sum

def readReply (b : List Byte) : ReplyContents :=
  let pr := byteAt b 10
  { symbol := .ofList b, day := byteAt b 5, revision := field b 6 2, stateCode := field b 8 1, tickCode := field b 9 1,
    saturated := pr.getLsbD 7, volume := field b 11 4, saleCount := field b 15 2,
    previousClose := priceIf (pr.getLsbD 0) b (replyOffset pr 0), opening := priceIf (pr.getLsbD 1) b (replyOffset pr 1),
    high := priceIf (pr.getLsbD 2) b (replyOffset pr 2), low := priceIf (pr.getLsbD 3) b (replyOffset pr 3),
    last := priceIf (pr.getLsbD 4) b (replyOffset pr 4), bid := sideIf (pr.getLsbD 5) b (replyOffset pr 5),
    ask := sideIf (pr.getLsbD 6) b (replyOffset pr 6) }

/-- The body of a kind, when its length is one that Table 10-2 allows (R65). -/
def readBody (kind : Nat) (b : List Byte) : Option FrameBody :=
  let n := b.length
  match kind with
  | 1 => if n = 17 then some (.sale (readSale b)) else none
  | 2 => if 9 ≤ n ∧ n = quoteLength 9 (byteAt b 8) then some (.quote (readQuote b)) else none
  | 3 => if n = 9 then some (.state (readStateFrame b)) else none
  | 4 => if n = 6 then some (.recallFor (.ofList b) (byteAt b 5)) else none
  | 5 => if 17 ≤ n ∧ n = replyOffset (byteAt b 10) 7 then some (.reply (readReply b)) else none
  | 6 => if 2 ≤ n ∧ n ≤ 65 then some (.notice (field b 0 1) (b.drop 1)) else none
  | 7 => if n = 2 then some (.session (byteAt b 0) (field b 1 1)) else none
  | 8 => if n = 4 then some (.clock (field b 0 1) (field b 1 1) (field b 2 1) (field b 3 1)) else none
  | 9 => if n = 2 then some (.hold (field b 0 1) (field b 1 1)) else none
  | _ => none

/-! ### Whole frames (Table 10-1) -/

/-- The sum of bytes modulo 65,536. -/
def byteSum (bs : List Byte) : Word16 :=
  bs.foldl (fun s b => s + b.setWidth 16) 0

/-- A station number is 1 to 62 (0.5.3). -/
def isStation (n : Nat) : Bool :=
  decide (1 ≤ n) && decide (n ≤ 62)

/-- R65: the origin and body of an accepted frame, or none for one that is discarded. -/
def readFrame (bs : List Byte) : Option (Nat × FrameBody) :=
  let len := field bs 2 1
  if bs.length = len + 5 ∧ byteSum (bs.take (len + 3)) + BitVec.ofNat 16 (field bs (len + 3) 2) = 0
      ∧ isStation (field bs 1 1) then
    (readBody (field bs 0 1) ((bs.drop 3).take len)).map fun body => (field bs 1 1, body)
  else none

def writeSide (s : Side) : List Byte :=
  toBytes 3 s.price ++ toBytes 2 s.size

def writeOption {α : Type} (f : α → List Byte) : Option α → List Byte
  | some a => f a
  | none => []

/-- A presence byte from its bits, bit 0 first. -/
def presenceByte (bits : List Bool) : Byte :=
  BitVec.ofNat 8 (bits.foldr (fun b n => (if b then 1 else 0) + 2 * n) 0)

/-- The kind code and body bytes of a frame (Table 10-2). -/
def writeBody : FrameBody → Byte × List Byte
  | .sale c =>
    (1, c.symbol.bytes ++ [c.day] ++ toBytes 2 c.revision ++ toBytes 3 c.tradeTime ++ toBytes 3 c.price
      ++ toBytes 3 c.volume)
  | .quote c =>
    (2, c.symbol.bytes ++ [c.day] ++ toBytes 2 c.revision ++ [c.presence] ++ writeOption writeSide c.bid
      ++ writeOption writeSide c.ask)
  | .state c => (3, c.symbol.bytes ++ [c.day] ++ toBytes 2 c.revision ++ toBytes 1 c.code)
  | .recallFor s d => (4, s.bytes ++ [d])
  | .reply c =>
    (5, c.symbol.bytes ++ [c.day] ++ toBytes 2 c.revision ++ toBytes 1 c.stateCode ++ toBytes 1 c.tickCode
      ++ [presenceByte [c.previousClose.isSome, c.opening.isSome, c.high.isSome, c.low.isSome, c.last.isSome,
          c.bid.isSome, c.ask.isSome, c.saturated]]
      ++ toBytes 4 c.volume ++ toBytes 2 c.saleCount ++ writeOption (toBytes 3) c.previousClose
      ++ writeOption (toBytes 3) c.opening ++ writeOption (toBytes 3) c.high ++ writeOption (toBytes 3) c.low
      ++ writeOption (toBytes 3) c.last ++ writeOption writeSide c.bid ++ writeOption writeSide c.ask)
  | .notice u t => (6, toBytes 1 u ++ t)
  | .session d ph => (7, [d] ++ toBytes 1 ph)
  | .clock w h m s => (8, toBytes 1 w ++ toBytes 1 h ++ toBytes 1 m ++ toBytes 1 s)
  | .hold g a => (9, toBytes 1 g ++ toBytes 1 a)

/-- R63: header, body and check of a frame from `origin`. -/
def writeFrame (origin : Nat) (body : FrameBody) : List Byte :=
  let kb := writeBody body
  let covered := [kb.1, BitVec.ofNat 8 origin, BitVec.ofNat 8 kb.2.length] ++ kb.2
  covered ++ toBytes 2 (-(byteSum covered)).toNat

/-! ### Record copy (Table 10-4) -/

def natOr0 (o : Option Nat) : Nat :=
  o.getD 0

/-- A side's five bytes, zero when absent (R179). -/
def sideOr0 (o : Option Side) : List Byte :=
  writeSide (o.getD ⟨0, 0⟩)

/-- R170: the 48 bytes of a record copy. -/
def recordCopy (r : Record) : List Byte :=
  let d := r.shown
  r.symbol.bytes ++ toBytes 1 (natOr0 r.home) ++ toBytes 1 r.priceStep
    ++ [presenceByte [r.tapeExclude, r.heard, d.doubtful, d.saturated, r.lastWhole.isSome]]
    ++ toBytes 2 ((r.revision.map BitVec.toNat).getD 0) ++ [r.recordDay.getD 0]
    ++ toBytes 1 d.state.code ++ toBytes 1 d.tick.code ++ toBytes 1 r.recallState.code
    ++ [presenceByte [d.previousClose.isSome, d.opening.isSome, d.high.isSome, d.low.isSome, d.last.isSome,
        d.bid.isSome, d.ask.isSome]]
    ++ toBytes 4 d.volume ++ toBytes 2 d.saleCount
    ++ toBytes 3 (natOr0 d.previousClose) ++ toBytes 3 (natOr0 d.opening) ++ toBytes 3 (natOr0 d.high)
    ++ toBytes 3 (natOr0 d.low) ++ toBytes 3 (natOr0 d.last) ++ sideOr0 d.bid ++ sideOr0 d.ask
    ++ toBytes 2 (natOr0 r.lastWhole)

/-! ### Console codes (Tables 10-3, 10-4) -/

/-- The command that a code written to COMMAND names. -/
def ConsoleCommand.ofCode (c : Byte) : ConsoleCommand :=
  match c.toNat with
  | 1 => .enterSale
  | 2 => .enterQuote
  | 3 => .enterState
  | 4 => .enterNotice
  | 5 => .hold
  | 6 => .release
  | 7 => .readRecord
  | 8 => .clearStatus
  | 9 => .abortClear
  | 10 => .setClock
  | 11 => .repaint
  | 12 => .blank
  | 13 => .warmRestart
  | _ => .unknown

/-- The declared lengths that Table 10-4 allows for a command that carries a body. -/
def lengthAllowed (c : ConsoleCommand) (n : Nat) : Bool :=
  match c with
  | .enterSale => n == 11
  | .enterQuote => n == 6 || n == 11 || n == 16
  | .enterState => n == 6
  | .enterNotice => decide (2 ≤ n) && decide (n ≤ 65)
  | .hold | .release => n == 1
  | .readRecord => n == 5
  | .setClock => n == 4 || n == 5
  | _ => false

/-! ### Configuration image (Table 10-5) -/

/-- What reading one item from the bytes at hand gives: too few bytes yet, a fault that stops the read (R175), or an
item and the bytes after it. -/
inductive ItemRead (α : Type) where
  | short
  | bad
  | got (item : α) (rest : List Byte)
  deriving Repr

/-- An item of a fixed number of bytes. -/
def readFixed {α : Type} (n : Nat) (f : List Byte → α) (bs : List Byte) : ItemRead α :=
  if bs.length < n then .short else .got (f (bs.take n)) (bs.drop n)

def clampTo (lo hi n : Nat) : Nat :=
  if n < lo then lo else if hi < n then hi else n

/-- The header settings, each kept in its range, and whether a value was replaced (R176). A late threshold of 0 gives
3 and a recall pace of 0 gives 40 without a replacement. -/
def readSettings (b : List Byte) : Settings × Bool :=
  let fl := byteAt b 1
  let base := field b 3 1
  let period := field b 4 1
  let late := if field b 5 1 = 0 then 3 else field b 5 1
  let flash := field b 6 1
  let highlight := field b 7 1
  let pace := if field b 8 1 = 0 then 40 else field b 8 1
  let filter := field b 9 1
  let s : Settings :=
    { station := field b 0 1, transmitEnabled := fl.getLsbD 0, answerEnabled := fl.getLsbD 1,
      clockSource := fl.getLsbD 2, blankAtClose := fl.getLsbD 3, terminalsInUse := byteAt b 2,
      baseSpeed := clampTo 4 16 base, samplePeriod := clampTo 1 64 period, lateThreshold := clampTo 1 30 late,
      flashHold := clampTo 1 30 flash, highlightHold := clampTo 1 30 highlight, recallPace := clampTo 10 250 pace,
      heldOnly := filter == 1 }
  (s, s.baseSpeed != base || s.samplePeriod != period || s.lateThreshold != late || s.flashHold != flash
    || s.highlightHold != highlight || s.recallPace != pace || decide (1 < filter))

def readCounts (b : List Byte) : ItemCounts :=
  { instruments := field b 10 2, layouts := field b 12 1, zones := field b 13 1, positions := field b 14 2,
    pages := field b 16 1, timetable := field b 17 1 }

/-- R175: the capacities of the sections. -/
def ItemCounts.withinCapacity (c : ItemCounts) : Bool :=
  decide (c.instruments ≤ 1024) && decide (c.layouts ≤ 8) && decide (c.zones ≤ 16) && decide (c.positions ≤ 256)
    && decide (c.pages ≤ 32) && decide (c.timetable ≤ 16)

/-- The header: a fault for a bad station number or a count above its capacity (R175). -/
def readHeader (bs : List Byte) : ItemRead (Settings × Bool × ItemCounts) :=
  match readFixed 18 (fun b => (readSettings b, readCounts b)) bs with
  | .short => .short
  | .bad => .bad
  | .got ((s, replaced), c) rest =>
    if isStation s.station && c.withinCapacity then .got (s, replaced, c) rest else .bad

/-- An instrument item as the image gives it. -/
structure InstrumentItem where
  symbol : Symbol
  home : Nat
  priceStep : Nat
  tapeExclude : Bool
  deriving DecidableEq, Repr

def readInstrument : List Byte → ItemRead InstrumentItem :=
  readFixed 8 fun b =>
    { symbol := .ofList b, home := field b 5 1, priceStep := field b 6 1, tapeExclude := (byteAt b 7).getLsbD 0 }

/-- The field kinds of Table 10-5. -/
def FieldKind.ofCode : Nat → Option FieldKind
  | 1 => some .symbol
  | 2 => some .last
  | 3 => some .change
  | 4 => some .volume
  | 5 => some .bid
  | 6 => some .ask
  | 7 => some .high
  | 8 => some .low
  | 9 => some .mark
  | 10 => some .arrow
  | _ => none

/-- One field of a field layout: MARK and ARROW are one cell wide (R94); a bad kind or width drops the layout (R176). -/
def readLayoutField (kind width : Nat) : Option (FieldKind × Nat) :=
  if 1 ≤ width ∧ width ≤ 8 then
    (FieldKind.ofCode kind).map fun k => (k, if k = .mark ∨ k = .arrow then 1 else width)
  else none

/-- The fields of a field layout from its kind and width bytes, or none when one of them is bad. -/
def readLayoutFields : List Byte → Option (List (FieldKind × Nat))
  | k :: w :: rest =>
    match readLayoutField k.toNat w.toNat, readLayoutFields rest with
    | some f, some fs => some (f :: fs)
    | _, _ => none
  | _ => some []

/-- A layout item; a dropped layout reads as none (R176). The count or length is judged as soon as it is read, and a
type other than 0 or 1 is a fault (R175). -/
def readLayout : List Byte → ItemRead (Option Layout)
  | [] => .short
  | kind :: rest =>
    if kind = 0 then
      match rest with
      | [] => .short
      | count :: more =>
        if 6 < count.toNat then .bad
        else if more.length < 2 * count.toNat then .short
        else .got
          (if count = 0 then none else (readLayoutFields (more.take (2 * count.toNat))).map Layout.fields)
          (more.drop (2 * count.toNat))
    else if kind = 1 then
      match rest with
      | [] => .short
      | len :: more =>
        if 48 < len.toNat then .bad
        else if more.length < len.toNat then .short
        else .got (if len = 0 then none else some (.legend (more.take len.toNat))) (more.drop len.toNat)
    else .bad

structure ZoneItem where
  number : Nat
  fixed : Bool
  group : Nat
  deriving DecidableEq, Repr

def readZone : List Byte → ItemRead ZoneItem :=
  readFixed 3 fun b => { number := field b 0 1, fixed := (byteAt b 1).getLsbD 0, group := field b 2 1 }

structure PositionItem where
  symbol : Symbol
  layout : Nat
  zone : Nat
  panel : Nat
  firstCell : Nat
  deriving DecidableEq, Repr

def readPosition : List Byte → ItemRead PositionItem :=
  readFixed 9 fun b =>
    { symbol := .ofList b, layout := field b 5 1, zone := field b 6 1, panel := field b 7 1, firstCell := field b 8 1 }

/-- The symbols of a page's rows, five bytes each. -/
def readSymbols : Nat → List Byte → List Symbol
  | 0, _ => []
  | k + 1, bs => .ofList (bs.take 5) :: readSymbols k (bs.drop 5)

/-- A page item: its number and its symbols; more than 16 rows is a fault, found at the row count (R175). -/
def readPage : List Byte → ItemRead (Nat × List Symbol)
  | number :: count :: more =>
    if 16 < count.toNat then .bad
    else if more.length < 5 * count.toNat then .short
    else .got (number.toNat, readSymbols count.toNat more) (more.drop (5 * count.toNat))
  | _ => .short

structure TimetableItem where
  weekdays : Byte
  hour : Nat
  minute : Nat
  action : Nat
  deriving DecidableEq, Repr

def readTimetableItem : List Byte → ItemRead TimetableItem :=
  readFixed 4 fun b =>
    { weekdays := byteAt b 0, hour := field b 1 1, minute := field b 2 1, action := field b 3 1 }

def TimetableAction.ofCode : Nat → Option TimetableAction
  | 1 => some .openSession
  | 2 => some .closeSession
  | 3 => some .tapeTime
  | 4 => some .repaint
  | 5 => some .sendClock
  | _ => none

/-- R175: bytes are taken in pairs, high byte first, and added modulo 65,536; `odd` says that a first byte of a pair
was the last taken. -/
def sumBytes : List Byte → Word16 → Bool → Word16 × Bool
  | [], s, odd => (s, odd)
  | b :: rest, s, odd =>
    sumBytes rest (s + (if odd then b.setWidth 16 else b.setWidth 16 <<< (8 : Nat))) (!odd)

end Sys2Proof.Machine
end

