-- ==== Sys2Proof/Machine/Text.lean ====
section
/-! DEFINITION. The arithmetic by which prices, changes, volumes, rows, details, prints and lags become text
(Section 2, R29 to R44). -/

namespace Sys2Proof.Machine

/-! ### Characters -/

def blankGlyph : Glyph := .ch 32
def starGlyph : Glyph := .ch 42

/-- Fixed words of the part, each character by its code (R179). -/
def glyphsOf (cs : List Char) : List Glyph :=
  cs.map fun c => .ch (BitVec.ofNat 8 c.toNat)

def digitGlyph (n : Nat) : Glyph :=
  .ch (BitVec.ofNat 8 (48 + n % 10))

/-- The digits of `n` before `acc`; `fuel` above the number of digits. -/
def digitsOnto : Nat → Nat → List Glyph → List Glyph
  | 0, _, acc => acc
  | fuel + 1, n, acc =>
    if n < 10 then digitGlyph n :: acc else digitsOnto fuel (n / 10) (digitGlyph n :: acc)

/-- The digits of a number without leading zeros, 0 as "0". -/
def digits (n : Nat) : List Glyph :=
  digitsOnto (n + 1) n []

def twoDigits (n : Nat) : List Glyph :=
  [digitGlyph (n / 10), digitGlyph n]

def blanks (n : Nat) : List Glyph :=
  List.replicate n blankGlyph

/-- Right-aligned in `w` cells, spaces to the left (R32). -/
def rightAlign (w : Nat) (text : List Glyph) : List Glyph :=
  blanks (w - text.length) ++ text

/-- Padded with spaces on the right to `w`. -/
def padTo (w : Nat) (text : List Glyph) : List Glyph :=
  text ++ blanks (w - text.length)

/-- The display set's characters that have a code (0.5.7, R43). -/
def inDisplaySet (b : Byte) : Bool :=
  isCapital b || (decide (48 ≤ b.toNat) && decide (b.toNat ≤ 57))
    || [32, 46, 44, 45, 47, 58, 39, 63, 43, 42, 115].contains b.toNat

/-- R43: a character outside the display set is formed as "?". -/
def displayGlyph (b : Byte) : Glyph :=
  .ch (if inDisplaySet b then b else 63)

def symbolGlyphs (s : Symbol) : List Glyph :=
  s.letters.map Glyph.ch

/-! ### Decomposition and forms (R29 to R31) -/

/-- Halve numerator and denominator while the numerator is even (R29). -/
def reduceFraction : Nat → Nat → Nat → Nat × Nat
  | 0, n, d => (n, d)
  | fuel + 1, n, d => if n % 2 = 0 then reduceFraction fuel (n / 2) (d / 2) else (n, d)

/-- The whole part and the sixty-fourths of a price (R29). -/
def wholePart (p : Nat) : Nat := p / 64
def sixtyFourths (p : Nat) : Nat := p % 64

/-- The reduced fraction of a price whose fraction is not 0 (R29). -/
def reduced (p : Nat) : Nat × Nat :=
  reduceFraction 6 (sixtyFourths p) 64

def slash : Glyph := .ch 47

def fractionText (f : Nat × Nat) : List Glyph :=
  digits f.1 ++ [slash] ++ digits f.2

/-- The full form of a price (R30). -/
def fullForm (p : Nat) : List Glyph :=
  if sixtyFourths p = 0 then digits (wholePart p)
  else if wholePart p = 0 then fractionText (reduced p)
  else digits (wholePart p) ++ [blankGlyph] ++ fractionText (reduced p)

/-- Whether a compact form exists: no fraction, or a reduced denominator of 8 or less (R31). -/
def hasCompact (p : Nat) : Bool :=
  sixtyFourths p == 0 || decide ((reduced p).2 ≤ 8)

/-- The glyph of a reduced fraction with a denominator of 8 or less, as a count of eighths (R29). -/
def fractionGlyph (f : Nat × Nat) : Glyph :=
  .eighths (f.1 * (8 / f.2))

/-- The compact form of a price that has one (R31). -/
def compactForm (p : Nat) : List Glyph :=
  if sixtyFourths p = 0 then digits (wholePart p)
  else if wholePart p = 0 then [fractionGlyph (reduced p)]
  else digits (wholePart p) ++ [fractionGlyph (reduced p)]

/-- The truncated form (R32). -/
def truncatedForm (p : Nat) : List Glyph :=
  let e := sixtyFourths p / 8
  if e = 0 then digits (wholePart p)
  else if wholePart p = 0 then [.eighths e]
  else digits (wholePart p) ++ [.eighths e]

/-! ### Fitting (R32 to R34) -/

/-- A fitted field: its cells, and whether the fine mark is set on the rightmost. -/
structure Fitted where
  text : List Glyph
  fine : Bool
  deriving DecidableEq, Repr

/-- A price after the characters `sign`, fitted into `w` cells by the steps of R32. -/
def fitSigned (sign : List Glyph) (p w : Nat) : Fitted :=
  let full := sign ++ fullForm p
  let short := sign ++ (if hasCompact p then compactForm p else truncatedForm p)
  if full.length ≤ w then ⟨rightAlign w full, false⟩
  else if short.length ≤ w then ⟨rightAlign w short, !hasCompact p⟩
  else ⟨List.replicate w starGlyph, false⟩

/-- A price that may be absent, fitted (R32). -/
def fitPrice (p : Option Nat) (w : Nat) : Fitted :=
  match p with
  | none => ⟨blanks w, false⟩
  | some p => fitSigned [] p w

def unchanged : List Glyph := glyphsOf ['U', 'N', 'C', 'H']

/-- The sign and magnitude of last − previous close when they differ. -/
def changeSign (last prev : Nat) : List Glyph :=
  if prev < last then glyphsOf ['+'] else glyphsOf ['-']

def changeSize (last prev : Nat) : Nat :=
  if prev < last then last - prev else prev - last

/-- The net change field (R33). -/
def fitChange (last prev : Option Nat) (w : Nat) : Fitted :=
  match last, prev with
  | some l, some c =>
    if l = c then ⟨rightAlign w (if 4 ≤ w then unchanged else digits 0), false⟩
    else fitSigned (changeSign l c) (changeSize l c) w
  | _, _ => ⟨blanks w, false⟩

/-- The volume field (R34). -/
def fitVolume (v : Nat) (saturated : Bool) (w : Nat) : List Glyph :=
  let h := v / 100
  let plus := if saturated then glyphsOf ['+'] else []
  let whole := digits h ++ plus
  let thousands := digits (h / 1000) ++ glyphsOf ['K'] ++ plus
  if whole.length ≤ w then rightAlign w whole
  else if thousands.length ≤ w then rightAlign w thousands
  else List.replicate w starGlyph

/-! ### Board cells (R35 to R37) -/

/-- The MARK cell (R36). -/
def markGlyph (d : Displayed) : Glyph :=
  if d.doubtful then .ch 63
  else match d.state with
    | .halted => .ch 72
    | .delayed => .ch 68
    | .closed => .ch 67
    | .notOpened => .ch 45
    | .trading => blankGlyph

/-- The ARROW cell (R36). -/
def arrowGlyph : Tick → Glyph
  | .up | .zeroUp => .upArrow
  | .down | .zeroDown => .downArrow
  | .none => blankGlyph

/-- The symbol in `w` cells, left-aligned, cut to its first `w` letters (R35). -/
def symbolField (s : Symbol) (w : Nat) : List Glyph :=
  padTo w ((symbolGlyphs s).take w)

/-- The text of a field of width `w` (R35). -/
def fieldText (s : Symbol) (d : Displayed) (k : FieldKind) (w : Nat) : Fitted :=
  match k with
  | .symbol => ⟨symbolField s w, false⟩
  | .last => fitPrice d.last w
  | .high => fitPrice d.high w
  | .low => fitPrice d.low w
  | .bid => fitPrice (d.bid.map (·.price)) w
  | .ask => fitPrice (d.ask.map (·.price)) w
  | .change => fitChange d.last d.previousClose w
  | .volume => ⟨fitVolume d.volume d.saturated w, false⟩
  | .mark => ⟨[markGlyph d], false⟩
  | .arrow => ⟨[arrowGlyph d.tick], false⟩

def steadyCell (g : Glyph) : PanelCell :=
  ⟨g, false, false⟩

/-- A fitted text as cells, the fine mark on the rightmost (R35). -/
def fittedCells (f : Fitted) : List PanelCell :=
  let cells := f.text.map steadyCell
  if f.fine then cells.modify (cells.length - 1) fun c => { c with fineMark := true } else cells

/-- The cells of one field: a lit arrow blinks while the flash timer runs (R36). -/
def fieldCells (s : Symbol) (d : Displayed) (flash : Bool) (k : FieldKind) (w : Nat) : List PanelCell :=
  match k with
  | .arrow => [⟨arrowGlyph d.tick, flash && d.tick != .none, false⟩]
  | _ => fittedCells (fieldText s d k w)

/-- A board position's cells under a field layout (R35). -/
def layoutCells (s : Symbol) (d : Displayed) (flash : Bool) (fs : List (FieldKind × Nat)) : List PanelCell :=
  fs.flatMap fun f => fieldCells s d flash f.1 f.2

/-- A LEGEND position's cells (R37). -/
def legendCells (text : List Byte) : List PanelCell :=
  text.map fun b => steadyCell (displayGlyph b)

/-! ### Terminal rows and details (R38, R39) -/

/-- The ten fields of a row in order MARK, ARROW, SYMBOL, LAST, CHANGE, VOLUME, BID, ASK, HIGH, LOW (R38). -/
def rowFieldTexts (s : Symbol) (d : Displayed) : List (List Glyph) :=
  [[markGlyph d], [arrowGlyph d.tick], symbolField s 5, (fitPrice d.last 8).text,
   (fitChange d.last d.previousClose 8).text, fitVolume d.volume d.saturated 8,
   (fitPrice (d.bid.map (·.price)) 8).text, (fitPrice (d.ask.map (·.price)) 8).text,
   (fitPrice d.high 8).text, (fitPrice d.low 8).text]

/-- The ten fields of a row that names no record: spaces (R38). -/
def blankRowTexts : List (List Glyph) :=
  [blanks 1, blanks 1, blanks 5, blanks 8, blanks 8, blanks 8, blanks 8, blanks 8, blanks 8, blanks 8]

def dash : List Glyph := glyphsOf ['-']

def priceOrDash : Option Nat → List Glyph
  | some p => fullForm p
  | none => dash

/-- A side's price, a space and its size, or "-" (R39). -/
def sideOrDash : Option Side → List Glyph
  | some s => fullForm s.price ++ [blankGlyph] ++ digits s.size
  | none => dash

/-- The net change with no width (R39). -/
def changeOrDash (last prev : Option Nat) : List Glyph :=
  match last, prev with
  | some l, some c => if l = c then unchanged else changeSign l c ++ fullForm (changeSize l c)
  | _, _ => dash

def stateWord : InstrState → List Glyph
  | .notOpened => glyphsOf ['N', 'O', 'T', ' ', 'O', 'P', 'E', 'N', 'E', 'D']
  | .delayed => glyphsOf ['D', 'E', 'L', 'A', 'Y', 'E', 'D']
  | .trading => glyphsOf ['T', 'R', 'A', 'D', 'I', 'N', 'G']
  | .halted => glyphsOf ['H', 'A', 'L', 'T', 'E', 'D']
  | .closed => glyphsOf ['C', 'L', 'O', 'S', 'E', 'D']

/-- The three lines of a detail (R39). -/
def detailText (s : Symbol) (d : Displayed) : FormedText :=
  .detail
    (symbolGlyphs s ++ [blankGlyph] ++ stateWord d.state ++ (if d.doubtful then glyphsOf [' ', '?'] else [])
      ++ glyphsOf [' ', 'L', 'A', 'S', 'T', ' '] ++ priceOrDash d.last
      ++ glyphsOf [' ', 'C', 'H', 'G', ' '] ++ changeOrDash d.last d.previousClose
      ++ glyphsOf [' ', 'V', 'O', 'L', ' '] ++ digits d.volume ++ (if d.saturated then glyphsOf ['+'] else [])
      ++ glyphsOf [' ', 'N', ' '] ++ digits d.saleCount)
    (glyphsOf ['B', 'I', 'D', ' '] ++ sideOrDash d.bid ++ glyphsOf [' ', 'A', 'S', 'K', ' '] ++ sideOrDash d.ask)
    (glyphsOf ['O', 'P', 'E', 'N', ' '] ++ priceOrDash d.opening ++ glyphsOf [' ', 'H', 'I', 'G', 'H', ' ']
      ++ priceOrDash d.high ++ glyphsOf [' ', 'L', 'O', 'W', ' '] ++ priceOrDash d.low
      ++ glyphsOf [' ', 'P', 'C', 'L', 'S', ' '] ++ priceOrDash d.previousClose)

/-! ### Prints (R40 to R43) -/

/-- The volume part of a print at a compression level (R40). -/
def volumePart (v level : Nat) : List Glyph :=
  if v = 100 ∨ (1 ≤ level ∧ v < 5000) then []
  else if v % 100 = 0 ∧ v ≤ 9900 then digits (v / 100) ++ glyphsOf ['s']
  else digits v ++ glyphsOf [' ', 'S', 'H', 'S', ' ']

/-- R41: whether the whole part is shortened: level 2 or 3, a held symbol whose last printed whole is present and
within 4 of the whole part, and a price of one unit or more: a price below one unit has no digit to delete and prints by
R31 and R30, as its fraction alone. -/
def deletesDigits (level w : Nat) (lastWhole : Option Nat) : Bool :=
  match lastWhole with
  | none => false
  | some l => decide (2 ≤ level) && decide (0 < w) && decide (w - l < 5) && decide (l - w < 5)

/-- The fraction of a print as its form requires: a glyph, or a space and the fraction (R31, R30, R41). -/
def printFraction (p : Nat) : List Glyph :=
  if sixtyFourths p = 0 then []
  else if hasCompact p then [fractionGlyph (reduced p)]
  else [blankGlyph] ++ fractionText (reduced p)

/-- The price part of a print (R41). -/
def pricePart (p level : Nat) (lastWhole : Option Nat) : List Glyph :=
  if deletesDigits level (wholePart p) lastWhole then [digitGlyph (wholePart p)] ++ printFraction p
  else if hasCompact p then compactForm p
  else fullForm p

/-- A print (R40): `lastWhole` is the record's last printed whole, none also for a symbol that is not held (R41). -/
def printText (e : SaleEntry) (level : Nat) (lastWhole : Option Nat) : List Glyph :=
  symbolGlyphs e.symbol ++ [blankGlyph] ++ volumePart e.volume level ++ pricePart e.price level lastWhole

/-- The text of an entry that is not a sale (R43). -/
def textEntryGlyphs : EntryContent → List Glyph
  | .sale _ => []
  | .notice t => t.map displayGlyph
  | .tapeTime h m => twoDigits h ++ glyphsOf [':'] ++ twoDigits m
  | .late n =>
    glyphsOf ['T', 'A', 'P', 'E', ' '] ++ digits n ++ glyphsOf [' ', 'M', 'I', 'N', ' ', 'L', 'A', 'T', 'E']
  | .current => glyphsOf ['T', 'A', 'P', 'E', ' ', 'C', 'U', 'R', 'R', 'E', 'N', 'T']
  | .omitted n =>
    glyphsOf ['P', 'R', 'I', 'N', 'T', 'S', ' ', 'O', 'M', 'I', 'T', 'T', 'E', 'D', ' '] ++ digits (natOr0 n)

/-! ### Lag (R44) -/

/-- The lag in minutes of a print taken at `now` whose trade time is `trade`. -/
def lagMinutes (now trade : Nat) : Nat :=
  let s := (now + 86400 - trade) % 86400
  if 43200 < s then 0 else min (s / 60) 99

end Sys2Proof.Machine
end

