-- ==== Sys2Proof/Machine/BoardWriter.lean ====
section
/-! DEFINITION. The Board Writer on its own state (Section 6): marks, the choice of work, repaint, blank, holds, flash,
and the panels' latched cells. -/

namespace Sys2Proof.Machine

/-! ### Positions and zones -/

def Board.layout (b : Board) (n : Nat) : Option Layout :=
  match n with
  | 0 => none
  | k + 1 => (b.layouts[k]?).join

def Layout.width : Layout → Nat
  | .fields fs => (fs.map (·.2)).sum
  | .legend t => t.length

/-- The width of a position (R93, R94). -/
def Board.width (b : Board) (pos : Position) : Nat :=
  ((b.layout pos.layout).map Layout.width).getD 0

/-- R102: a position has a flash timer when its layout has an ARROW field. -/
def Board.hasFlashTimer (b : Board) (pos : Position) : Bool :=
  match b.layout pos.layout with
  | some (.fields fs) => fs.any fun f => f.1 == .arrow
  | _ => false

/-- R95: a zone is protected while FIXED or HELD. -/
def Zone.isProtected (z : Zone) : Bool :=
  z.fixed || z.held

def Board.zone (b : Board) (z : ZoneId) : Zone :=
  b.zones.get z

/-- R95: refresh owed becomes yes, but for a FIXED zone, whose flag stays no. -/
def Zone.owe (z : Zone) : Zone :=
  if z.fixed then z else { z with refreshOwed := true }

def Board.oweZone (z : ZoneId) (b : Board) : Board :=
  { b with zones := b.zones.set z.val (b.zone z).owe z.isLt }

def Board.zoneOf (b : Board) (k : Nat) : Option ZoneId :=
  (b.positions[k]?).map (·.zone)

/-! ### Panels -/

/-- The key of a panel's cell. -/
def panelKey (panel cell : Nat) : Nat :=
  Config.panelCells * panel + cell

/-- One cell latched; keys stay strictly rising. -/
def latchCell (key : Nat) (c : PanelCell) : List (Nat × PanelCell) → List (Nat × PanelCell)
  | [] => [(key, c)]
  | e :: rest =>
    if key < e.1 then (key, c) :: e :: rest
    else if key = e.1 then (key, c) :: rest
    else e :: latchCell key c rest

/-- A run of cells latched from a key on (6.3). -/
def latchCells (key : Nat) (cs : List PanelCell) (shown : List (Nat × PanelCell)) : List (Nat × PanelCell) :=
  match cs with
  | [] => shown
  | c :: rest => latchCells (key + 1) rest (latchCell key c shown)

/-- What a panel shows in a cell, none when nothing has been written there since power was applied (log 13). -/
def Board.shownCell (b : Board) (panel cell : Nat) : Option PanelCell :=
  (b.panels.find? fun e => e.1 == panelKey panel cell).map (·.2)

/-- The cells of position `k` latched (R96). -/
def Board.latchPosition (k : Nat) (cs : List PanelCell) (b : Board) : Board :=
  match b.positions[k]? with
  | some pos => { b with panels := latchCells (panelKey pos.panel pos.firstCell) cs b.panels }
  | none => b

/-- The spaces that a blank writes to position `k` (R109). -/
def Board.blankCells (b : Board) (k : Nat) : List PanelCell :=
  match b.positions[k]? with
  | some pos => List.replicate (b.width pos) (steadyCell blankGlyph)
  | none => []

/-! ### Marks (R99) -/

def Board.absorbs (b : Board) (k : Nat) : Bool :=
  match b.cursor with
  | some c => decide (c ≤ k)
  | none => false

/-- R99: a mark on position `k`, by the first case that holds. -/
def Board.mark (k : Nat) (b : Board) : Board :=
  match b.zoneOf k with
  | none => b
  | some z =>
    if (b.zone z).isProtected then b.oweZone z
    else if b.absorbs k then b
    else if b.dirty.contains k then b
    else { b with dirty := b.dirty ++ [k] }

/-- Marks in ascending position order (R24, R110, R113). -/
def Board.markAll (ks : List Nat) (b : Board) : Board :=
  ks.foldl (fun b k => b.mark k) b

/-- The positions, by number, that a test picks. -/
def Board.positionsWhere (b : Board) (test : Position → Bool) : List Nat :=
  (List.range b.positions.length).filter fun k => ((b.positions[k]?).map test).getD false

/-! ### Repaint (R104 to R107) -/

/-- R104, R107: a repaint starts or starts again at position 0; with no position it ends in the same event. -/
def Board.startRepaint (b : Board) : Board :=
  { b with
    cursor := if b.positions.length = 0 then none else some 0
    nextSource := if b.cursor.isSome then b.nextSource else .queue }

def Board.blankUnderWay (b : Board) : Bool :=
  b.blankPending || (match b.op with | .blanking _ => true | _ => false)

/-- R104: a repaint request. -/
def Board.requestRepaint (b : Board) : Board :=
  if b.blankUnderWay then { b with repaintHeld := true } else b.startRepaint

/-- R105: from position `k` on, the positions of HELD zones are passed over, each making its zone owe a refresh; the
first other position is found. -/
def passHeld : List Position → Nat → Vector Zone 16 → Vector Zone 16 × Option Nat
  | [], _, zones => (zones, none)
  | pos :: rest, k, zones =>
    if (zones.get pos.zone).held then
      passHeld rest (k + 1) (zones.set pos.zone.val (zones.get pos.zone).owe pos.zone.isLt)
    else (zones, some k)

/-- R97, steps 3 and 4: the head of the Dirty Queue, or IDLE. -/
def Board.takeDirty (b : Board) : Board :=
  match b.dirty with
  | k :: rest => { b with dirty := rest, op := .forming k .queue }
  | [] => { b with op := .idle }

/-- R105 to R107: work taken at the cursor; passing only HELD positions to the end ends the repaint. -/
def Board.takeAtCursor (c : Nat) (b : Board) : Board :=
  match passHeld (b.positions.drop c) c b.zones with
  | (zones, some k) =>
    { b with zones := zones, cursor := some (k + 1), nextSource := .queue, op := .forming k .cursor }
  | (zones, none) => ({ b with zones := zones, cursor := none } : Board).takeDirty

/-- R97, steps 2 to 4: the alternation of a running repaint (R106), else the Dirty Queue, else IDLE. A cursor at the end
with nothing of its own in flight ends the repaint (R107). -/
def Board.chooseWork (b : Board) : Board :=
  match b.cursor with
  | none => b.takeDirty
  | some c =>
    if b.positions.length ≤ c then ({ b with cursor := none } : Board).takeDirty
    else if b.nextSource = .queue ∧ b.dirty ≠ [] then ({ b with nextSource := .cursor } : Board).takeDirty
    else b.takeAtCursor c

/-! ### Blank (R108 to R110) -/

/-- R110: what a blank's completion does before the next choice. -/
def Board.completeBlank (b : Board) : Board :=
  let b1 := { b with zones := b.zones.map fun (z : Zone) => if z.held then z.owe else z }
  if b1.repaintHeld then ({ b1 with repaintHeld := false } : Board).startRepaint
  else b1.markAll (b1.positionsWhere fun pos => !(b1.zone pos.zone).isProtected)

/-- R97: the Board Writer chooses its next work; a pending blank comes first, and one with no position completes in the
event that begins it (R110). -/
def Board.choose (b : Board) : Board :=
  if b.blankPending then
    if b.positions.length = 0 then ({ b with blankPending := false } : Board).completeBlank.chooseWork
    else { b with blankPending := false, op := .blanking 0 }
  else b.chooseWork

/-- R108: a blank request; a repaint that is running ends and is held for after the blank. -/
def Board.requestBlank (b : Board) : Board :=
  if b.blankUnderWay then b
  else { b with blankPending := true, repaintHeld := b.repaintHeld || b.cursor.isSome, cursor := none }

/-! ### Formation and panel write completions (R96 to R98) -/

/-- R98 with R105: cells are withheld when the zone is HELD, or FIXED under a position taken from the queue; a FIXED
zone's position taken at the cursor is written (log 12). -/
def Board.withholds (b : Board) (k : Nat) (src : Source) : Bool :=
  match b.zoneOf k with
  | some z => (b.zone z).held || ((b.zone z).fixed && src == .queue)
  | none => false

/-- R98: a position of source QUEUE is put back at the head of the Dirty Queue, or its protected zone owes a refresh. -/
def Board.putBack (k : Nat) (b : Board) : Board :=
  match b.zoneOf k with
  | none => b
  | some z =>
    if (b.zone z).isProtected then b.oweZone z
    else { b with dirty := k :: b.dirty.filter (· != k) }

/-- R98: the formed cells of position `k` judged. -/
def Board.formed (k : Nat) (src : Source) (cs : List PanelCell) (b : Board) : Board :=
  if b.blankPending then (if src = .queue then b.putBack k else b).choose
  else if b.withholds k src then
    (match b.zoneOf k with | some z => b.oweZone z | none => b).choose
  else { b with op := .writing k src cs }

/-- R96, R97, R109, R177: the panel write in flight completes. -/
def Board.writeComplete (b : Board) : Board :=
  match b.op with
  | .writing k _ cs => (b.latchPosition k cs).choose
  | .blanking k =>
    let b1 := b.latchPosition k (b.blankCells k)
    if k + 1 < b1.positions.length then { b1 with op := .blanking (k + 1) }
    else ({ b1 with op := .idle } : Board).completeBlank.choose
  | .faultBlanking a =>
    let b1 := { b with
      panels := latchCells (panelKey a 0) (List.replicate Config.panelCells (steadyCell blankGlyph)) b.panels }
    if a + 1 < Config.panels then { b1 with op := .faultBlanking (a + 1) } else { b1 with op := .idle }
  | .idle => b
  | .forming _ _ => b

/-! ### Holds (R112, R113, R115) -/

/-- R112. -/
def Board.holdGroup (g : Nat) (b : Board) : Board :=
  let zones := b.zones.map fun z => if z.group = some g then ({ z with held := true } : Zone).owe else z
  { b with
    zones := zones
    dirty := b.dirty.filter fun k =>
      match b.zoneOf k with
      | some z => (b.zone z).group != some g
      | none => true }

/-- R113: a zone of the group that a release leaves unprotected with a refresh owed. -/
def Zone.releasedOwing (g : Nat) (z : Zone) : Bool :=
  z.group == some g && z.held && !z.fixed && z.refreshOwed

def Zone.release (g : Nat) (z : Zone) : Zone :=
  if z.group = some g ∧ z.held then
    { z with held := false, refreshOwed := if z.fixed then z.refreshOwed else false }
  else z

/-- R113. -/
def Board.releaseGroup (g : Nat) (b : Board) : Board :=
  let owing := b.positionsWhere fun pos => (b.zone pos.zone).releasedOwing g
  ({ b with zones := b.zones.map (Zone.release g) } : Board).markAll owing

/-- R111: a hold request by its action code; another code is ignored. -/
def Board.requestHold (group action : Nat) (b : Board) : Board :=
  if action = 0 then b.holdGroup group
  else if action = 1 then b.releaseGroup group
  else b

/-- R115: the Board Writer answers FIXED when the group has a zone and every zone of it is FIXED. -/
def Board.groupFixed (g : Nat) (b : Board) : Bool :=
  let zs := b.zones.toList.filter fun z => z.group == some g
  !zs.isEmpty && zs.all (·.fixed)

/-! ### Flash (R102, R103) -/

def Board.setFlash (k : Nat) (on : Bool) (b : Board) : Board :=
  { b with positions := b.positions.modify k fun pos => { pos with flash := on } }

/-- R102: the flash timers of record `i`'s positions start or start again. -/
def Board.startFlash (i : Nat) (b : Board) : Board :=
  { b with
    positions := b.positions.map fun pos =>
      if pos.record = some i ∧ b.hasFlashTimer pos then { pos with flash := true } else pos }

/-- R103: the flash timer of position `k` expires; a stopped timer has no expiry. -/
def Board.flashExpiry (k : Nat) (b : Board) : Board :=
  match b.positions[k]? with
  | some pos => if pos.flash then (b.setFlash k false).mark k else b
  | none => b

/-! ### Resets (R116, R117) -/

/-- R116: the values at the configuration lock, the first repaint started. -/
def Board.atLock (b : Board) : Board :=
  ({ b with
    positions := b.positions.map fun pos => { pos with flash := false }
    zones := b.zones.map fun z => { z with held := false, refreshOwed := false }
    dirty := [], op := .idle, blankPending := false, repaintHeld := false, cursor := none,
    nextSource := .queue } : Board).startRepaint

/-- R117: a write of spaces in flight completes as an ordinary write; a formation is abandoned. -/
def Board.warmOp (b : Board) : BoardOp :=
  match b.op with
  | .blanking k => .writing k .queue (b.blankCells k)
  | .writing k src cs => .writing k src cs
  | .forming _ _ => .idle
  | .idle => .idle
  | .faultBlanking a => .faultBlanking a

/-- R117, before the choice of the repaint's first position. -/
def Board.warmRestart (b : Board) : Board :=
  ({ b with
    positions := b.positions.map fun pos => { pos with flash := false }
    op := b.warmOp, dirty := [], blankPending := false, repaintHeld := false, cursor := none,
    nextSource := .queue } : Board).startRepaint

end Sys2Proof.Machine
end

