-- ==== Sys2Proof/Machine/RibbonFeeder.lean ====
section
/-! DEFINITION. The Print Pool and Ribbon Feeder on their own state (Section 7): entries made, merged and omitted, the
crawl, urgent entries, lag sampling, compression. -/

namespace Sys2Proof.Machine

/-- The Ribbon Feeder with the event flags that it may raise (R171). -/
structure Tape where
  rib : Ribbon
  flags : Byte
  deriving DecidableEq, Repr

/-- What the Ribbon Feeder reads outside itself when it takes an entry: the time of day when SET (R82), the lag sample
period and the late threshold. -/
structure TapeEnv where
  now : Option Nat
  samplePeriod : Nat
  lateThreshold : Nat
  deriving DecidableEq, Repr

/-! ### Pool and backlog (R118, R120) -/

/-- The occupancy: the number of backlog entries (R118). -/
def Ribbon.occupancy (r : Ribbon) : Nat :=
  r.urgent.length + r.routine.length

def Entry.isWaiting (e : Entry) : Bool := e.status == .waiting
def Entry.isOnRibbon (e : Entry) : Bool := e.status == .onRibbon
def Entry.isSuspended (e : Entry) : Bool := e.status == .suspended

/-- R120: the head of the backlog, with its band. -/
def Ribbon.head (r : Ribbon) : Option (Band × Entry) :=
  match r.urgent.find? Entry.isWaiting with
  | some e => some (.urgent, e)
  | none =>
    match r.routine.find? Entry.isSuspended with
    | some e => some (.routine, e)
    | none => (r.routine.find? Entry.isWaiting).map fun e => (.routine, e)

/-- The entry ON RIBBON, with its band. -/
def Ribbon.onRibbon (r : Ribbon) : Option (Band × Entry) :=
  match r.urgent.find? Entry.isOnRibbon with
  | some e => some (.urgent, e)
  | none => (r.routine.find? Entry.isOnRibbon).map fun e => (.routine, e)

/-- The entry of a slot. -/
def Ribbon.entry (r : Ribbon) (slot : Nat) : Option Entry :=
  (r.urgent ++ r.routine).find? fun e => e.slot == slot

/-- The entries of a slot rewritten in place. -/
def Ribbon.modifyEntry (slot : Nat) (f : Entry → Entry) (r : Ribbon) : Ribbon :=
  let g := fun e : Entry => if e.slot = slot then f e else e
  { r with urgent := r.urgent.map g, routine := r.routine.map g }

/-! ### Compression level (R140, R141) -/

/-- R140: the highest level whose occupancy figure the occupancy reaches. -/
def occupancyLevel (n : Nat) : Nat :=
  if 384 ≤ n then 3 else if 256 ≤ n then 2 else if 128 ≤ n then 1 else 0

/-- R140: the highest level whose lag figure the tape lag reaches. -/
def lagLevel (m : Nat) : Nat :=
  if 10 ≤ m then 3 else if 5 ≤ m then 2 else if 2 ≤ m then 1 else 0

/-- R141: from a level, the occupancy and the lag below which it falls by one. -/
def mayFall (level occupancy lag : Nat) : Bool :=
  match level with
  | 3 => decide (occupancy < 320) && decide (lag < 9)
  | 2 => decide (occupancy < 192) && decide (lag < 4)
  | 1 => decide (occupancy < 64) && decide (lag < 1)
  | _ => false

/-- R140, R141: the level after a recomputation. -/
def nextLevel (level occupancy lag : Nat) : Nat :=
  let target := max (occupancyLevel occupancy) (lagLevel lag)
  if level < target then target
  else if target < level ∧ mayFall level occupancy lag then level - 1
  else level

def Ribbon.recomputeLevel (r : Ribbon) : Ribbon :=
  { r with level := nextLevel r.level r.occupancy r.tapeLag }

/-! ### Making entries (R121, R136) -/

/-- R136: whether an entry that joins the urgent band sets suspension pending. -/
def Ribbon.suspendsFor (r : Ribbon) : Bool :=
  (match r.onRibbon with | some (.routine, _) => true | _ => false)
    && (match r.crawl with | .awaitingText => true | .printing _ => true | _ => false)

/-- R121: a slot taken from the head of the free list, the entry at the tail of its band, the level recomputed, DEPLETION
raised as the free count falls to 32, and suspension pending set for an urgent entry (R136). Without a free slot
nothing is made. -/
def Tape.makeEntry (band : Band) (content : EntryContent) (t : Tape) : Tape :=
  match t.rib.free with
  | [] => t
  | slot :: rest =>
    let e : Entry := { slot := slot, status := .waiting, content := content, text := none }
    let joined : Ribbon :=
      match band with
      | .urgent =>
        { t.rib with
          free := rest, urgent := t.rib.urgent ++ [e],
          suspensionPending := t.rib.suspensionPending || t.rib.suspendsFor }
      | .routine => { t.rib with free := rest, routine := t.rib.routine ++ [e] }
    { rib := joined.recomputeLevel
      flags := if rest.length = Config.reserveSlots then raiseFlag .depletion t.flags else t.flags }

/-! ### Lag sampling (R138, R139) -/

/-- R139: the late or current notice of a measurement; nothing changes when no slot is free. -/
def Tape.announce (threshold m : Nat) (t : Tape) : Tape :=
  if t.rib.free = [] then t
  else if threshold ≤ m then
    if t.rib.announced = some m then t
    else
      let t1 := t.makeEntry .urgent (.late m)
      { rib := { t1.rib with announced := some m }, flags := raiseFlag .tapeLate t1.flags }
  else if t.rib.announced.isSome then
    let t1 := t.makeEntry .routine .current
    { t1 with rib := { t1.rib with announced := none } }
  else t

/-- R138: the countdown of a SALE entry taken, and the measurement when it reaches 0. -/
def Tape.sample (env : TapeEnv) (tradeTime : Nat) (t : Tape) : Tape :=
  if 1 < t.rib.countdown then { t with rib := { t.rib with countdown := t.rib.countdown - 1 } }
  else
    let t1 : Tape := { t with rib := { t.rib with countdown := env.samplePeriod } }
    match env.now with
    | none => t1
    | some now =>
      let m := lagMinutes now tradeTime
      ({ t1 with rib := { t1.rib with tapeLag := m } } : Tape).announce env.lateThreshold m

/-! ### Taking the head (R133) -/

def Ribbon.setStatus (slot : Nat) (st : EntryStatus) (r : Ribbon) : Ribbon :=
  r.modifyEntry slot fun e => { e with status := st }

/-- R133, but for the Formatter request of step 6, which `Part.ribbonRequest` makes. -/
def Tape.takeHead (env : TapeEnv) (t : Tape) : Tape :=
  match t.rib.head with
  | none => { t with rib := { t.rib with crawl := .idle } }
  | some (_, e) =>
    if e.isSuspended && e.text.isSome then
      { t with rib := { (t.rib.setStatus e.slot .onRibbon) with crawl := .printing 0 }.recomputeLevel }
    else
      let t1 : Tape := { t with rib := { (t.rib.setStatus e.slot .onRibbon) with crawl := .awaitingText } }
      let t2 :=
        match e.content with
        | .sale s => if e.isWaiting then t1.sample env s.tradeTime else t1
        | _ => t1
      { t2 with rib := t2.rib.recomputeLevel }

/-- An entry made and, with the crawl IDLE, the head taken in the same event (R127, R133). -/
def Tape.join (env : TapeEnv) (band : Band) (content : EntryContent) (t : Tape) : Tape :=
  let t1 := t.makeEntry band content
  if t1.rib.crawl = .idle then t1.takeHead env else t1

/-! ### Candidates (R122 to R125) -/

/-- R120: the youngest WAITING SALE entry of a symbol. -/
def Ribbon.youngestWaiting (r : Ribbon) (s : Symbol) : Option (Nat × SaleEntry) :=
  r.routine.reverse.findSome? fun e =>
    match e.content with
    | .sale x => if e.isWaiting ∧ x.symbol = s then some (e.slot, x) else none
    | _ => none

/-- R122: the older of an entry's trade time and a merged sale's. -/
def olderTrade (e t : Nat) : Nat :=
  let d := (e + 86400 - t) % 86400
  if 1 ≤ d ∧ d ≤ 43200 then t else e

/-- R123: a sale merged into an entry's fields. -/
def SaleEntry.merge (x : SaleEntry) (price volume tradeTime : Nat) : SaleEntry :=
  { x with
    price := price, volume := min (x.volume + volume) Config.maxSaleVolume,
    tradeTime := olderTrade x.tradeTime tradeTime, merged := x.merged + 1 }

def Ribbon.mergeInto (slot : Nat) (c : SaleContents) (r : Ribbon) : Ribbon :=
  r.modifyEntry slot fun e =>
    match e.content with
    | .sale x => { e with content := .sale (x.merge c.price c.volume c.tradeTime) }
    | _ => e

/-- An OMITTED entry that is still unbound (R125). -/
def Entry.isUnbound (e : Entry) : Bool :=
  e.content == .omitted none

/-- R125: the candidate is counted, and an omitted notice is made if none is unbound and a slot is free. -/
def Tape.omitSale (env : TapeEnv) (t : Tape) : Tape :=
  let t1 : Tape :=
    { rib := { t.rib with omitted := min (t.rib.omitted + 1) Config.maxOmitted }
      flags := if t.rib.omitted = 0 then raiseFlag .printsOmitted t.flags else t.flags }
  if (t1.rib.urgent ++ t1.rib.routine).any Entry.isUnbound || t1.rib.free.isEmpty then t1
  else t1.join env .routine (.omitted none)

/-- R124: a tape candidate by the first step that applies. -/
def Tape.candidate (env : TapeEnv) (c : SaleContents) (t : Tape) : Tape :=
  let entry : EntryContent :=
    .sale { symbol := c.symbol, price := c.price, volume := c.volume, tradeTime := c.tradeTime, merged := 0 }
  match t.rib.youngestWaiting c.symbol with
  | some (slot, x) =>
    if t.rib.level = 3 ∧ x.price = c.price ∧ x.merged < Config.maxMerged then
      { t with rib := t.rib.mergeInto slot c }
    else if Config.reserveSlots < t.rib.free.length then t.join env .routine entry
    else if x.merged < Config.maxMerged then { t with rib := t.rib.mergeInto slot c }
    else t.omitSale env
  | none =>
    if Config.reserveSlots < t.rib.free.length then t.join env .routine entry
    else t.omitSale env

/-- R127: a NOTICE on the ribbon; an urgency that is neither ROUTINE nor URGENT is not entered. -/
def Tape.notice (env : TapeEnv) (urgency : Nat) (text : List Byte) (t : Tape) : Tape :=
  match urgency with
  | 0 => t.join env .routine (.notice text)
  | 1 => t.join env .urgent (.notice text)
  | _ => t

/-! ### Formation (R126, R132) -/

/-- R126: an unbound OMITTED entry takes the omitted count at the start of its formation. -/
def Ribbon.bindOmitted (slot : Nat) (r : Ribbon) : Ribbon :=
  match r.entry slot with
  | some e =>
    if e.isUnbound then
      { (r.modifyEntry slot fun e => { e with content := .omitted (some r.omitted) }) with omitted := 0 }
    else r
  | none => r

/-- R132: the formed text stored in the entry the request named; an entry ON RIBBON begins to print. -/
def Ribbon.formed (slot : Nat) (text : List Glyph) (r : Ribbon) : Ribbon :=
  let r1 := { (r.modifyEntry slot fun e => { e with text := some text }) with request := none }
  match r1.entry slot with
  | some e => if e.isOnRibbon ∧ r1.crawl = .awaitingText then { r1 with crawl := .printing 0 } else r1
  | none => r1

/-! ### Crawl (R129, R130, R135, R136) -/

/-- R129: the crawl speed in characters per second. -/
def crawlSpeed (base level : Nat) : Nat :=
  min (base + 2 * level) 20

/-- R135: the entry ON RIBBON leaves the backlog and its slot returns to the head of the free list. -/
def Ribbon.retire (r : Ribbon) : Ribbon :=
  match r.onRibbon with
  | some (.urgent, e) =>
    { r with free := e.slot :: r.free, urgent := r.urgent.eraseP Entry.isOnRibbon }
  | some (.routine, e) =>
    { r with free := e.slot :: r.free, routine := r.routine.eraseP Entry.isOnRibbon }
  | none => r

/-- R136: the routine entry ON RIBBON set aside; this boundary sends the first separator blank, as Table 7-2 and 7.8.2 have
it too. R137 closes by saying that an urgent entry which joins just before the boundary of the last character is taken at
the same boundary as one that joins just after it; by R136 it is taken one boundary earlier. DESIGN CHOICE (log 19). -/
def Ribbon.suspend (r : Ribbon) : Ribbon :=
  let r1 :=
    match r.onRibbon with
    | some (_, e) => r.setStatus e.slot .suspended
    | none => r
  { r1 with crawl := .separating 1 true, suspensionPending := false, strobed := some blankGlyph }

/-- R130: a separator blank; the second ends the entry (R135) and the crawl takes the head. -/
def Tape.separate (env : TapeEnv) (sent : Nat) (suspended : Bool) (t : Tape) : Tape :=
  let t1 : Tape := { t with rib := { t.rib with strobed := some blankGlyph } }
  if sent + 1 < 2 then { t1 with rib := { t1.rib with crawl := .separating (sent + 1) suspended } }
  else (if suspended then t1 else { t1 with rib := t1.rib.retire }).takeHead env

/-- R130: the character due at a boundary; after the last the crawl is SEPARATING. -/
def Ribbon.printAt (place : Nat) (r : Ribbon) : Ribbon :=
  let text := ((r.onRibbon.bind fun be => be.2.text)).getD []
  { r with
    strobed := some (text.getD place blankGlyph)
    crawl := if place + 1 < text.length then .printing (place + 1) else .separating 0 false }

/-- R130, R136: a character boundary. -/
def Tape.boundary (env : TapeEnv) (t : Tape) : Tape :=
  if t.rib.suspensionPending then { t with rib := t.rib.suspend }
  else match t.rib.crawl with
    | .idle => { t with rib := { t.rib with strobed := some blankGlyph } }
    | .awaitingText => { t with rib := { t.rib with strobed := some blankGlyph } }
    | .printing place => { t with rib := t.rib.printAt place }
    | .separating sent suspended => t.separate env sent suspended

/-- R129: an advance expiry of a running part: the timer starts again with the level at this moment, and with the head
ready it is a character boundary. -/
def Tape.advance (env : TapeEnv) (base : Nat) (headReady : Bool) (t : Tape) : Tape :=
  let t1 : Tape :=
    { t with rib := { t.rib with advance := some (crawlSpeed base t.rib.level), strobed := none } }
  if headReady then t1.boundary env else t1

/-! ### Resets (R143) -/

/-- R143: the values at the configuration lock. -/
def Ribbon.atLock (base period : Nat) : Ribbon :=
  { Ribbon.reset with advance := some (crawlSpeed base 0), countdown := period }

/-- R143: an entry put back by a warm restart. -/
def Entry.putBack (e : Entry) : Entry :=
  if e.isWaiting then e else { e with status := .waiting, text := none }

/-- R143: the entries that are not WAITING at the head of their band, WAITING. -/
def putBackBand (es : List Entry) : List Entry :=
  (es.filter (!·.isWaiting)).map Entry.putBack ++ es.filter Entry.isWaiting

/-- R143: the warm restart's change to the ribbon, and the taking of the head. -/
def Tape.warmRestart (env : TapeEnv) (t : Tape) : Tape :=
  ({ t with
    rib := { t.rib with
      urgent := putBackBand t.rib.urgent, routine := putBackBand t.rib.routine,
      request := none, suspensionPending := false } } : Tape).takeHead env

end Sys2Proof.Machine
end

