-- ==== Sys2Proof/Machine/TerminalServer.lean ====
section
/-! DEFINITION. One terminal on its own record (Section 8): the keyboard line and its commands, marks, output runs, and
the choice of the next step. -/

namespace Sys2Proof.Machine

/-! ### Row fields (R38) -/

def RowFields.union (a b : RowFields) : RowFields :=
  { mark := a.mark || b.mark, arrow := a.arrow || b.arrow, symbol := a.symbol || b.symbol, last := a.last || b.last,
    change := a.change || b.change, volume := a.volume || b.volume, bid := a.bid || b.bid, ask := a.ask || b.ask,
    high := a.high || b.high, low := a.low || b.low }

def RowFields.isEmpty (a : RowFields) : Bool :=
  a == RowFields.empty

/-- The fields in row order. -/
def RowFields.toList (a : RowFields) : List Bool :=
  [a.mark, a.arrow, a.symbol, a.last, a.change, a.volume, a.bid, a.ask, a.high, a.low]

/-- The row fields in which each changed displayed field appears: open, sale count and the two sizes appear in none
(R38, R151). -/
def rowFieldsChanged (a b : Displayed) : RowFields :=
  { mark := a.state != b.state || a.doubtful != b.doubtful, arrow := a.tick != b.tick, symbol := false,
    last := a.last != b.last, change := a.last != b.last || a.previousClose != b.previousClose,
    volume := a.volume != b.volume || a.saturated != b.saturated
    bid := a.bid.map (·.price) != b.bid.map (·.price), ask := a.ask.map (·.price) != b.ask.map (·.price),
    high := a.high != b.high, low := a.low != b.low }

/-! ### Output runs (R145, R148 to R155) -/

def outGlyphs (gs : List Glyph) : List OutChar :=
  gs.map OutChar.glyph

/-- The cursor to a line and column: each code is the number plus 31 (Table 8-3). -/
def moveTo (line column : Nat) : List OutChar :=
  [.esc, .code (line + 31), .code (column + 31)]

/-- ESC and a letter (Table 8-3). -/
def escape (letter : Char) : List OutChar :=
  .esc :: outGlyphs (glyphsOf [letter])

def endLine : List OutChar := [.cr, .lf]

/-- The captions of line 2 placed over their columns (8.1). -/
def captions : List Glyph :=
  blanks 3 ++ padTo 6 (glyphsOf ['S', 'Y', 'M']) ++ padTo 9 (glyphsOf ['L', 'A', 'S', 'T'])
    ++ padTo 9 (glyphsOf ['C', 'H', 'G']) ++ padTo 9 (glyphsOf ['V', 'O', 'L']) ++ padTo 9 (glyphsOf ['B', 'I', 'D'])
    ++ padTo 9 (glyphsOf ['A', 'S', 'K']) ++ padTo 9 (glyphsOf ['H', 'I', 'G', 'H']) ++ glyphsOf ['L', 'O', 'W']

def headingText : Selection → List Glyph
  | .page n => glyphsOf ['P', 'A', 'G', 'E', ' '] ++ twoDigits n
  | .watch => glyphsOf ['W', 'A', 'T', 'C', 'H']

/-- The start of a run that clears the screen: the move with which every run begins (R145), here to line 1 column 1, and
ESC C (R148, R177); that the move stands before ESC C is DEDUCED (log 6). -/
def clearRun : List OutChar :=
  moveTo 1 1 ++ escape 'C'

/-- The clear-and-heading run (R148). ESC C is given no effect on the cursor (Table 8-3), so line 1 follows it; the move
to line 2 is DESIGN CHOICE (log 6). -/
def headingRun (sel : Selection) : List OutChar :=
  clearRun ++ outGlyphs (headingText sel) ++ endLine ++ moveTo 2 1 ++ outGlyphs captions ++ endLine

/-- The word of a refusal (R156). -/
def CommandShows.word : CommandShows → List Glyph
  | .keys => []
  | .unknown => glyphsOf ['U', 'N', 'K', 'N', 'O', 'W', 'N']
  | .already => glyphsOf ['A', 'L', 'R', 'E', 'A', 'D', 'Y']
  | .full => glyphsOf ['F', 'U', 'L', 'L']
  | .notListed => glyphsOf ['N', 'O', 'T', ' ', 'L', 'I', 'S', 'T', 'E', 'D']

/-- The command-line run (R155). -/
def Terminal.commandRun (t : Terminal) : List OutChar :=
  moveTo 24 1
    ++ outGlyphs (padTo 16 (if t.shows = .keys then t.keyLine.map Glyph.ch else t.shows.word))
    ++ (if t.bellOwed then [.bel] else []) ++ moveTo 24 (t.keyLine.length + 1)

/-- The message run (R153). -/
def messageRun (m : Message) : List OutChar :=
  moveTo 20 1 ++ (if m.urgent then escape 'B' else []) ++ outGlyphs (m.text.map displayGlyph)
    ++ (if m.urgent then escape 'N' else []) ++ outGlyphs (blanks (64 - m.text.length)) ++ endLine

/-- The run of a detail's three lines (R154). How the run reaches lines 22 and 23 after the CR LF of the line before is
left open: a cursor move stands before each of the three lines. DESIGN CHOICE (log 6). -/
def detailRun (l1 l2 l3 : List Glyph) : List OutChar :=
  moveTo 21 1 ++ outGlyphs (padTo 73 l1) ++ endLine ++ moveTo 22 1 ++ outGlyphs (padTo 73 l2) ++ endLine
    ++ moveTo 23 1 ++ outGlyphs (padTo 73 l3) ++ endLine

/-- One field of a row, lit between ESC H and ESC N (R151). -/
def rowFieldRun (lit : Bool) (text : List Glyph) : List OutChar :=
  if lit then escape 'H' ++ outGlyphs text ++ escape 'N' else outGlyphs text

/-- The fields of a row after its first: a space before each (R38). -/
def spacedFields : List (Bool × List Glyph) → List OutChar
  | [] => []
  | f :: rest => .glyph blankGlyph :: rowFieldRun f.1 f.2 ++ spacedFields rest

/-- MARK and ARROW stand together; a space stands between the other fields (R38). -/
def rowChars : List (Bool × List Glyph) → List OutChar
  | m :: a :: rest => rowFieldRun m.1 m.2 ++ rowFieldRun a.1 a.2 ++ spacedFields rest
  | fs => spacedFields fs

/-- The run of row `i`, counted from 0, on line `i` + 3 (Table 8-1). -/
def rowRun (i : Nat) (lit : RowFields) (texts : List (List Glyph)) : List OutChar :=
  moveTo (i + 3) 1 ++ rowChars (lit.toList.zip texts) ++ endLine

/-! ### Marks (R150) and notices (R153) -/

/-- R150: a mark on one row. -/
def Row.mark (fields : RowFields) (r : Row) : Row :=
  { r with pending := true, changed := r.changed.union fields }

/-- R150: the rows that name a changed record; `changed` gives the row fields of each such record. -/
def Terminal.mark (changed : Nat → Option RowFields) (t : Terminal) : Terminal :=
  if t.state = .unused then t
  else { t with
    rows := t.rows.map fun r =>
      match r.record.bind changed with
      | some fs => r.mark fs
      | none => r }

/-- R153: a notice taken by a terminal in use. -/
def Terminal.takeNotice (m : Message) (t : Terminal) : Terminal :=
  if t.state = .unused then t else { t with message := some m, messageOwed := true }

/-! ### The choice of the next step (R146) -/

/-- R148: the selection takes effect; `fresh` is the new row set with its snapshot. -/
def Terminal.takeSelection (fresh : List Row) (t : Terminal) : Terminal :=
  { t with
    redrawOwed := false, rows := fresh, drawCursor := 1, state := .drawing, commandOwed := true,
    messageOwed := t.messageOwed || t.message.isSome, step := some (.run .heading (headingRun t.selection)) }

/-- R146, step 6, and R151: the lowest pending row taken for a live rewrite. -/
def Terminal.takeLive (t : Terminal) : Terminal :=
  match t.rows.findIdx? (·.pending) with
  | some i =>
    { t with
      rows := t.rows.modify i fun r => { r with pending := false, changed := RowFields.empty }
      step := some (.request (.live i (((t.rows[i]?).map (·.changed)).getD RowFields.empty))) }
  | none => t

/-- R146: the next step of a free terminal in use. -/
def Terminal.choose (fresh : List Row) (t : Terminal) : Terminal :=
  if t.state = .unused ∨ t.step.isSome then t
  else if t.redrawOwed then t.takeSelection fresh
  else if t.commandOwed then
    { t with commandOwed := false, bellOwed := false, step := some (.run .command t.commandRun) }
  else if t.messageOwed then
    match t.message with
    | some m => { t with messageOwed := false, step := some (.run .message (messageRun m)) }
    | none => { t with messageOwed := false }
  else
    match t.detailOwed with
    | some s => { t with detailOwed := none, step := some (.request (.detail s)) }
    | none =>
      if t.state = .drawing then
        if t.drawCursor ≤ t.rows.length then { t with step := some (.request (.draw (t.drawCursor - 1))) }
        else ({ t with state := .live } : Terminal).takeLive
      else t.takeLive

/-- R145, R149: the run on the line completes; after a drawing row the cursor moves on. -/
def Terminal.runComplete (t : Terminal) : Terminal :=
  match t.step with
  | some (.run (.draw i) _) => { t with step := none, drawCursor := i + 2 }
  | some (.run _ _) => { t with step := none }
  | _ => t

/-- R149, R151, R154: the formed text of the terminal's request, given its lit fields, begins its run. -/
def Terminal.formed (job : TermJob) (text : FormedText) (t : Terminal) : Terminal :=
  match job, text with
  | .draw i, .row texts => { t with step := some (.run job (rowRun i RowFields.empty texts)) }
  | .live i new, .row texts =>
    let lit := (((t.rows[i]?).map (·.lit)).getD RowFields.empty).union new
    { t with
      rows := t.rows.modify i fun r =>
        { r with lit := r.lit.union new, highlight := r.highlight || !new.isEmpty }
      step := some (.run job (rowRun i lit texts)) }
  | .detail _, .detail a b c => { t with step := some (.run job (detailRun a b c)) }
  | _, _ => t

/-- R152: the highlight timer of a row, counted from 0, expires; a stopped timer has no expiry. -/
def Terminal.highlightExpiry (i : Nat) (t : Terminal) : Terminal :=
  match t.rows[i]? with
  | some r =>
    if r.highlight then
      { t with rows := t.rows.modify i fun r => { r with lit := RowFields.empty, highlight := false, pending := true } }
    else t
  | none => t

/-! ### The keyboard (R155, R156) -/

def isSmall (b : Byte) : Bool :=
  decide (97 ≤ b.toNat) && decide (b.toNat ≤ 122)

def isDigit (b : Byte) : Bool :=
  decide (48 ≤ b.toNat) && decide (b.toNat ≤ 57)

/-- The characters that the keyboard line keeps (R155). -/
def isKeptKey (b : Byte) : Bool :=
  isCapital b || isSmall b || isDigit b || [32, 43, 45, 63].contains b.toNat

/-- A lower-case letter as its capital. -/
def capital (b : Byte) : Byte :=
  if isSmall b then b - 32 else b

/-- R155: a kept key. -/
def Terminal.keep (b : Byte) (t : Terminal) : Terminal :=
  let t1 := if t.shows = .keys then t else { t with shows := .keys, keyLine := [] }
  let t2 :=
    if t1.keyLine.length < Config.keyPlaces ∧ !t1.overflow then { t1 with keyLine := t1.keyLine ++ [capital b] }
    else { t1 with overflow := true, bellOwed := true }
  { t2 with commandOwed := true }

/-- R155: the backspace key. -/
def Terminal.eraseKey (t : Terminal) : Terminal :=
  if !t.overflow ∧ t.keyLine ≠ [] then { t with keyLine := t.keyLine.dropLast, commandOwed := true } else t

/-- The commands of Table 8-4. -/
inductive KeyCommand where
  | page (n : Nat)
  | watch
  | add (s : Symbol)
  | remove (s : Symbol)
  | detail (s : Symbol)
  | unknown
  deriving DecidableEq, Repr

/-- Leading and trailing spaces set aside (R156). -/
def trimSpaces (bs : List Byte) : List Byte :=
  ((bs.dropWhile (· == spaceCode)).reverse.dropWhile (· == spaceCode)).reverse

/-- One or two digits giving 1 to 32. -/
def readPageNumber (bs : List Byte) : Option Nat :=
  let n := bs.foldl (fun n b => n * 10 + (b.toNat - 48)) 0
  if bs.all isDigit ∧ (bs.length = 1 ∨ bs.length = 2) ∧ 1 ≤ n ∧ n ≤ 32 then some n else none

/-- One to five letters as a symbol. -/
def readKeySymbol (bs : List Byte) : Option Symbol :=
  if bs.all isCapital ∧ 1 ≤ bs.length ∧ bs.length ≤ 5 then some (.ofList bs) else none

/-- The command that a line without outer spaces spells (Table 8-4). -/
def readKeyCommand : List Byte → KeyCommand
  | [] => .unknown
  | b :: rest =>
    match b.toNat with
    | 80 => ((readPageNumber (rest.dropWhile (· == spaceCode))).map KeyCommand.page).getD .unknown
    | 87 => if rest = [] then .watch else .unknown
    | 43 => ((readKeySymbol rest).map KeyCommand.add).getD .unknown
    | 45 => ((readKeySymbol rest).map KeyCommand.remove).getD .unknown
    | 63 => ((readKeySymbol rest).map KeyCommand.detail).getD .unknown
    | _ => .unknown

/-- R156: a refusal. -/
def Terminal.refuse (word : CommandShows) (t : Terminal) : Terminal :=
  { t with shows := word, bellOwed := true }

/-- R147: a selection, or an edit of the watch list on the screen, owes a redraw. -/
def Terminal.select (sel : Selection) (t : Terminal) : Terminal :=
  { t with selection := sel, redrawOwed := true }

/-- R147: an accepted edit redraws when the selection is WATCH. -/
def Terminal.edited (watch : List Symbol) (t : Terminal) : Terminal :=
  { t with watch := watch, redrawOwed := t.redrawOwed || t.selection == .watch }

/-- R156 to R158: a command performed; `held` says whether a symbol is held (R5). -/
def Terminal.perform (held : Symbol → Bool) (c : KeyCommand) (t : Terminal) : Terminal :=
  match c with
  | .page n => t.select (.page n)
  | .watch => t.select .watch
  | .add s =>
    if !held s then t.refuse .unknown
    else if t.watch.contains s then t.refuse .already
    else if Config.watchPlaces ≤ t.watch.length then t.refuse .full
    else t.edited (t.watch ++ [s])
  | .remove s =>
    if t.watch.contains s then t.edited (t.watch.filter (· != s)) else t.refuse .notListed
  | .detail s => if held s then { t with detailOwed := some s } else t.refuse .unknown
  | .unknown => { t with bellOwed := true }

/-- R156: the return key. A line that shows a refusal word is empty. -/
def Terminal.returnKey (held : Symbol → Bool) (t : Terminal) : Terminal :=
  let line := trimSpaces t.keyLine
  let t1 := { t with keyLine := [], overflow := false, commandOwed := true }
  if t.overflow ∨ line = [] then t1 else t1.perform held (readKeyCommand line)

/-- The codes of the backspace and return keys (ASCII, PRESUMED: log 6). -/
def backspaceCode : Byte := 8
def returnCode : Byte := 13

/-- R155: a character received from the keyboard of a terminal in use. -/
def Terminal.key (held : Symbol → Bool) (b : Byte) (t : Terminal) : Terminal :=
  if t.state = .unused then t
  else if isKeptKey b then t.keep b
  else if b = backspaceCode then t.eraseKey
  else if b = returnCode then t.returnKey held
  else t

/-! ### Resets (R159, R160) -/

/-- R159: a terminal in use at the configuration lock, before its selection takes effect. -/
def Terminal.atLock : Terminal :=
  { Terminal.reset with state := .drawing, redrawOwed := true }

/-- R160: rows at a warm restart. -/
def Row.quiet (r : Row) : Row :=
  { r with pending := false, changed := RowFields.empty, lit := RowFields.empty, highlight := false }

/-- R160, before the choice of the next step: a waiting request is abandoned and a run completes. -/
def Terminal.warmRestart (t : Terminal) : Terminal :=
  if t.state = .unused then t
  else { t with
    redrawOwed := true, rows := t.rows.map Row.quiet, detailOwed := none, keyLine := [], overflow := false,
    shows := .keys, bellOwed := false
    step := match t.step with | some (.run job chars) => some (.run job chars) | _ => none }

end Sys2Proof.Machine
end

