-- ==== Sys2Proof/Machine/PriceFormatter.lean ====
section
/-! DEFINITION. The Price Formatter's service of its ten requesters (R25 to R28), and the moments at which the Board
Writer, the Ribbon Feeder and the terminals choose work and make their requests. -/

namespace Sys2Proof.Machine

/-! ### Reading the values of a request (R27) -/

/-- The print or text of a backlog entry, read with the compression level and the last printed whole (R40 to R43). -/
def Part.ribbonText (p : Part) (slot : Nat) : FormedText :=
  match p.ribbon.entry slot with
  | none => .print [] none
  | some e =>
    match e.content with
    | .sale x =>
      match p.lookup x.symbol with
      | some i =>
        .print (printText x p.ribbon.level ((p.records[i]?).bind (·.lastWhole))) (some (i, wholePart x.price))
      | none => .print (printText x p.ribbon.level none) none
    | c => .print (textEntryGlyphs c) none

/-- The cells of a board position from its live record and flash state (R35, R37). -/
def Part.boardText (p : Part) (k : Nat) : FormedText :=
  match p.board.positions[k]? with
  | none => .cells []
  | some pos =>
    match p.board.layout pos.layout with
    | none => .cells []
    | some (.legend text) => .cells (legendCells text)
    | some (.fields fs) =>
      match pos.record.bind fun i => p.records[i]? with
      | some r => .cells (layoutCells r.symbol r.shown pos.flash fs)
      | none => .cells (List.replicate (p.board.width pos) (steadyCell blankGlyph))

/-- The text of row `i` of a terminal: from its snapshot while it is drawn, from the live record otherwise (R38). -/
def Part.rowText (p : Part) (row : Option Row) (drawing : Bool) : FormedText :=
  match row.bind fun r => r.record.bind fun i => (p.records[i]?).map fun rec => (r, rec) with
  | none => .row blankRowTexts
  | some (r, rec) =>
    .row (rowFieldTexts rec.symbol (if drawing then r.snapshot.getD rec.shown else rec.shown))

def Part.terminalText (p : Part) (t : TerminalId) (job : TermJob) : FormedText :=
  match job with
  | .draw i => p.rowText ((p.terminal t).rows[i]?) true
  | .live i _ => p.rowText ((p.terminal t).rows[i]?) false
  | .detail s =>
    match (p.lookup s).bind fun i => p.records[i]? with
    | some r => detailText r.symbol r.shown
    | none => .detail [] [] []
  | .heading | .command | .message | .faultClear => .row []

/-! ### Requests, formation start, arbitration (R25, R26) -/

/-- R26, R27: a formation begins: every value is read at once, an unbound OMITTED entry is bound (R126), and a
terminal's request sets the last terminal served. -/
def Part.beginFormation (r : Request) (p : Part) : Part :=
  match r with
  | .ribbon slot =>
    let p1 := { p with ribbon := p.ribbon.bindOmitted slot }
    { p1 with formatter := { p1.formatter with forming := some (r, p1.ribbonText slot) } }
  | .board k => { p with formatter := { p.formatter with forming := some (r, p.boardText k) } }
  | .terminal t job =>
    { p with formatter := { p.formatter with forming := some (r, p.terminalText t job), lastServed := t } }

/-- R25: a request begins at once while the Formatter is IDLE, else it is placed in its requester's waiting place. -/
def Part.request (r : Request) (p : Part) : Part :=
  if p.formatter.forming.isNone then p.beginFormation r
  else
    match r with
    | .ribbon slot => { p with formatter := { p.formatter with ribbonWait := some slot } }
    | .board k => { p with formatter := { p.formatter with boardWait := some k } }
    | .terminal t job =>
      { p with formatter := { p.formatter with termWait := p.formatter.termWait.set t.val (some job) t.isLt } }

/-- R26: the terminals in the order of the search, starting after the last one served. -/
def searchOrder (last : TerminalId) : List TerminalId :=
  allTerminals.map fun k => last + 1 + k

/-- R26: the waiting request that the arbitration picks, taken out of its place. -/
def Formatter.pick (f : Formatter) : Option (Request × Formatter) :=
  match f.ribbonWait with
  | some slot => some (.ribbon slot, { f with ribbonWait := none })
  | none =>
    match f.boardWait with
    | some k => some (.board k, { f with boardWait := none })
    | none =>
      (searchOrder f.lastServed).findSome? fun t =>
        (f.termWait.get t).map fun job => (.terminal t job, { f with termWait := f.termWait.set t.val none t.isLt })

/-- R25, R26: the Formatter chooses its next request after a completion, or becomes IDLE. -/
def Part.endFormation (p : Part) : Part :=
  let f := { p.formatter with forming := none }
  match f.pick with
  | some (r, f1) => ({ p with formatter := f1 } : Part).beginFormation r
  | none => { p with formatter := f }

/-! ### The requesters choose work -/

/-- The Board Writer's request for a position it has just taken (R97). -/
def Part.boardRequest (p : Part) : Part :=
  match p.board.op with
  | .forming k _ => p.request (.board k)
  | _ => p

/-- R97: in an event that gives work to an IDLE Board Writer it chooses its next work. -/
def Part.boardKick (p : Part) : Part :=
  if p.board.op = .idle then ({ p with board := p.board.choose } : Part).boardRequest else p

/-- R131, R133: a request for the entry ON RIBBON whose text is absent, when no ribbon request is in flight. -/
def Part.ribbonRequest (p : Part) : Part :=
  match p.ribbon.onRibbon with
  | some (_, e) =>
    if e.text.isNone ∧ p.ribbon.request.isNone then
      ({ p with ribbon := { p.ribbon with request := some e.slot } } : Part).request (.ribbon e.slot)
    else p
  | none => p

/-- What the Ribbon Feeder reads outside itself. -/
def Part.tapeEnv (p : Part) : TapeEnv :=
  { now := p.clock.time.map (·.seconds), samplePeriod := p.settings.samplePeriod,
    lateThreshold := p.settings.lateThreshold }

/-- An operation of the Ribbon Feeder, with the flags it raises and the request it then makes. -/
def Part.onTape (f : TapeEnv → Tape → Tape) (p : Part) : Part :=
  let t := f p.tapeEnv { rib := p.ribbon, flags := p.console.flags }
  ({ p with ribbon := t.rib, console := { p.console with flags := t.flags } } : Part).ribbonRequest

/-- R148: the row of a record, with its snapshot. -/
def Part.freshRow (p : Part) (record : Option Nat) : Row :=
  { record := record, snapshot := (record.bind fun i => p.records[i]?).map (·.shown), pending := false,
    changed := RowFields.empty, lit := RowFields.empty, highlight := false }

/-- R148: the row set of a selection: the configured rows of a page, or the watch list's symbols. -/
def Part.freshRows (p : Part) (t : Terminal) : List Row :=
  match t.selection with
  | .page n => (((p.pages.find? fun pg => pg.number == n).map (·.rows)).getD []).map p.freshRow
  | .watch => t.watch.map fun s => p.freshRow (p.lookup s)

/-- R146: a free terminal with something to do chooses its next step; a Formatter request is made in the same event. -/
def Part.termKick (t : TerminalId) (p : Part) : Part :=
  let x := p.terminal t
  if x.step.isSome then p
  else
    let y := x.choose (p.freshRows x)
    let p1 := p.setTerminal t y
    match y.step with
    | some (.request job) => p1.request (.terminal t job)
    | _ => p1

/-- Every terminal with something to do, A to H (log 4). -/
def Part.termsKick (p : Part) : Part :=
  allTerminals.foldl (fun p t => p.termKick t) p

/-! ### Formation completions -/

/-- R98: the completion at the Board Writer; then the Formatter chooses (log 4). -/
def Part.boardFormed (p : Part) : Part :=
  match p.formatter.forming, p.board.op with
  | some (.board k, .cells cs), .forming j src =>
    if k = j then
      (({ p with board := p.board.formed k src cs } : Part).boardRequest).endFormation
    else p
  | _, _ => p

/-- R42: the last printed whole of a record. -/
def Part.writeLastWhole (w : Option (Nat × Nat)) (p : Part) : Part :=
  match w with
  | some (i, n) => p.modifyRecord i fun r => { r with lastWhole := some n }
  | none => p

/-- R132, R42: the completion at the Ribbon Feeder. -/
def Part.ribbonFormed (p : Part) : Part :=
  match p.formatter.forming with
  | some (.ribbon slot, .print text whole) =>
    ((({ p with ribbon := p.ribbon.formed slot text } : Part).writeLastWhole whole).ribbonRequest).endFormation
  | _ => p

/-- R149, R151, R154: the completion at a terminal. -/
def Part.terminalFormed (p : Part) : Part :=
  match p.formatter.forming with
  | some (.terminal t job, text) =>
    if (p.terminal t).step = some (.request job) then
      (p.setTerminal t ((p.terminal t).formed job text)).endFormation
    else p
  | _ => p

/-- R28: a warm restart abandons the formation in progress and empties every waiting place. -/
def Part.formatterRestart (p : Part) : Part :=
  { p with formatter := Formatter.reset }

/-! ### The commands -/

/-- BOARD_FORMATION_COMPLETION (R98). -/
def execBoardFormationCompletion (s : State) : Host.Outcome State Fault Refusal :=
  .next (s.onPart (Part.whenRunning Part.boardFormed))

/-- RIBBON_FORMATION_COMPLETION (R132). -/
def execRibbonFormationCompletion (s : State) : Host.Outcome State Fault Refusal :=
  .next (s.onPart (Part.whenRunning Part.ribbonFormed))

/-- TERMINAL_FORMATION_COMPLETION (R151). -/
def execTerminalFormationCompletion (s : State) : Host.Outcome State Fault Refusal :=
  .next (s.onPart (Part.whenRunning Part.terminalFormed))

end Sys2Proof.Machine
end

