-- ==== Sys2Proof/Machine/FloorLine.lean ====
section
/-! DEFINITION. The Transmit Queue and the transmitter (R69 to R75): classes, the frame taken and completed, offers and
displacement, withdrawal, deferral and backoff. -/

namespace Sys2Proof.Machine

/-- The sending priorities (0.6). -/
inductive FrameClass where
  | urgent
  | normal
  | low
  deriving DecidableEq, Repr

/-- The class of a frame, fixed by its kind (Table 4-1). -/
def TxBody.frameClass : TxBody → FrameClass
  | .state _ | .session _ _ | .hold _ _ => .urgent
  | .sale _ | .quote _ | .reply _ | .notice _ _ => .normal
  | .recallFor _ | .clock => .low

def QueuedFrame.hasClass (c : FrameClass) (f : QueuedFrame) : Bool :=
  f.body.frameClass == c

/-- R71: the chosen frame, the oldest of the highest class; the queue stands in order of age. -/
def chosenFrame (q : List QueuedFrame) : Option QueuedFrame :=
  match q.find? (QueuedFrame.hasClass .urgent) with
  | some f => some f
  | none =>
    match q.find? (QueuedFrame.hasClass .normal) with
    | some f => some f
    | none => q.head?

/-- R70: the youngest LOW frame of the queue. -/
def youngestLow (q : List QueuedFrame) : Option QueuedFrame :=
  q.reverse.find? (QueuedFrame.hasClass .low)

def removeFrame (age : Nat) (q : List QueuedFrame) : List QueuedFrame :=
  q.filter fun f => f.age != age

/-! ### Completing a frame (R71, R57) -/

/-- R57: a REPLY's fields, read from the record at the start of sending. -/
def replyContents (r : Record) : ReplyContents :=
  { symbol := r.symbol, day := r.recordDay.getD 0, revision := (r.revision.map BitVec.toNat).getD 0,
    stateCode := r.shown.state.code, tickCode := r.shown.tick.code, saturated := r.shown.saturated,
    volume := r.shown.volume, saleCount := r.shown.saleCount, previousClose := r.shown.previousClose,
    opening := r.shown.opening, high := r.shown.high, low := r.shown.low, last := r.shown.last, bid := r.shown.bid,
    ask := r.shown.ask }

/-- The symbol of a record index; spaces for an index without record, which no owner offers. -/
def Part.symbolOf (p : Part) (i : Nat) : Symbol :=
  ((p.records[i]?).map (·.symbol)).getD (.ofList [])

/-- R71: the body completed at the taking: a RECALL's day, a REPLY's record, a CLOCK's time. -/
def Part.completeBody (p : Part) (b : TxBody) : FrameBody :=
  match b with
  | .sale c => .sale c
  | .quote c => .quote c
  | .state c => .state c
  | .recallFor i => .recallFor (p.symbolOf i) (p.day.getD 0)
  | .reply i =>
    .reply (replyContents ((p.records[i]?).getD (Record.fresh (.ofList []) none 8 false)))
  | .notice u t => .notice u t
  | .session d ph => .session d ph
  | .clock =>
    let t := p.clock.time.getD ⟨0, 0⟩
    .clock t.weekday (t.seconds / 3600) (t.seconds / 60 % 60) (t.seconds % 60)
  | .hold g a => .hold g a

def LineSense.isQuiet : LineSense → Bool
  | .quiet => true
  | .busy _ => false

/-- R71, R73: an IDLE transmitter takes the chosen frame: the origin and the body are completed, the attempt count is 1,
and it enters DEFERRING, with the gap timer started when the line is quiet. -/
def Part.takeFrame (p : Part) : Part :=
  if p.line.current.isSome then p
  else
    match chosenFrame p.line.queue with
    | none => p
    | some f =>
      { p with
        line := { p.line with
          queue := removeFrame f.age p.line.queue
          gapRunning := p.line.sense.isQuiet
          current := some { frame := f, bytes := writeFrame p.settings.station (p.completeBody f.body), attempt := 1,
                            phase := .deferring } } }

/-! ### Offers (R70) -/

/-- R49: a displaced RECALL frees its slot and returns its record to the head of the list; a displaced CLOCK is dropped
(R76). A frame whose slot is gone changes nothing. -/
def Part.displaced (f : QueuedFrame) (p : Part) : Part :=
  match f.body with
  | .recallFor i =>
    if p.recalls.slots.any fun sl => sl.phase == .awaitingOutcome f.age then
      ({ p with
        recalls := { p.recalls with
          slots := p.recalls.slots.filter fun sl => sl.phase != .awaitingOutcome f.age
          list := i :: p.recalls.list } } : Part).setRecallState i .listed
    else p
  | _ => p

/-- A frame joins the queue as its youngest (R70), named by its age, and an IDLE transmitter takes (R71). -/
def Part.joinQueue (b : TxBody) (p : Part) : Part :=
  ({ p with
    line := { p.line with
      queue := p.line.queue ++ [{ age := p.line.nextAge, body := b }], nextAge := p.line.nextAge + 1 } } : Part).takeFrame

/-- R70: an offer, and whether the queue took the frame (else its outcome is NOT SENT). The frame's age is the
`nextAge` before the offer. -/
def Part.offer (b : TxBody) (p : Part) : Part × Bool :=
  if p.line.queue.length < Config.queuePlaces then (p.joinQueue b, true)
  else if b.frameClass = .urgent then
    match youngestLow p.line.queue with
    | some f =>
      ((({ p with line := { p.line with queue := removeFrame f.age p.line.queue } } : Part).displaced f).joinQueue b, true)
    | none => (p, false)
  else (p, false)

/-- R72: a withdrawal reaches a frame that is queued, and no other. -/
def Part.withdraw (age : Nat) (p : Part) : Part :=
  { p with line := { p.line with queue := removeFrame age p.line.queue } }

def Part.isQueued (p : Part) (age : Nat) : Bool :=
  p.line.queue.any fun f => f.age == age

/-! ### Transmitter (R73 to R75) -/

/-- R75: the number of slot times of a backoff after a clash on attempt `n`. -/
def backoffSlots (station n : Nat) : Nat :=
  station * n % 31 + 1

/-- DEFERRING entered: the gap timer starts when the line is quiet (R73). -/
def Line.defer (x : Sending) (l : Line) : Line :=
  { l with current := some { x with phase := .deferring }, gapRunning := l.sense.isQuiet }

/-- R73: the line becomes busy: a running gap timer stops, and the transmission is to be judged. -/
def Line.becomeBusy (judged : Bool) (l : Line) : Line :=
  match l.sense with
  | .quiet => { l with sense := .busy judged, gapRunning := false }
  | .busy _ => l

/-- R73: with the gap timer expired on a quiet line the attempt begins; the station's own transmission makes the line
busy and is not judged (R64). -/
def Line.gapExpiry (l : Line) : Line :=
  match l.current with
  | some x =>
    if l.gapRunning ∧ l.sense.isQuiet ∧ x.phase = .deferring then
      { l with current := some { x with phase := .sending }, gapRunning := false, sense := .busy false }
    else l
  | none => l

/-- R75. -/
def Line.backoffExpiry (l : Line) : Line :=
  match l.current with
  | some x =>
    match x.phase with
    | .backoff _ => l.defer { x with attempt := x.attempt + 1 }
    | _ => l
  | none => l

/-- R64, R73: the line goes quiet and a deferring transmitter starts its gap timer. -/
def Line.becomeQuiet (l : Line) : Line :=
  { l with
    sense := .quiet
    gapRunning := match l.current with | some x => x.phase == .deferring | none => false }

def Part.onLine (f : Line → Line) (p : Part) : Part :=
  { p with line := f p.line }

/-! ### The commands -/

/-- LINE_BUSY (R73). While the Line Interface is off the transmission begun is one that is not judged (R77). -/
def execLineBusy (s : State) : Host.Outcome State Fault Refusal :=
  .next (s.onPart fun p => p.onLine (Line.becomeBusy p.running))

/-- INTERFRAME_GAP_EXPIRY (R73). -/
def execInterframeGapExpiry (s : State) : Host.Outcome State Fault Refusal :=
  .next (s.onPart (Part.whenRunning (Part.onLine Line.gapExpiry)))

/-- BACKOFF_EXPIRY (R75). -/
def execBackoffExpiry (s : State) : Host.Outcome State Fault Refusal :=
  .next (s.onPart (Part.whenRunning (Part.onLine Line.backoffExpiry)))

end Sys2Proof.Machine
end

