-- ==== Sys2Proof/Machine/RecordStore.lean ====
section
/-! DEFINITION. The Record Store (Section 1): the content checks, the gates, the application of SALE, QUOTE, STATE and
REPLY contents, doubt, rollovers, and the marks of dependents. -/

namespace Sys2Proof.Machine

/-! ### Content check (R8, Table 1-3) -/

def priceOk (p : Option Nat) : Bool :=
  match p with
  | some x => decide (x ≤ Config.maxPrice)
  | none => true

/-- A present side's price and size in range. -/
def sideOk (s : Option Side) : Bool :=
  match s with
  | some x => decide (x.price ≤ Config.maxPrice) && decide (1 ≤ x.size) && decide (x.size ≤ Config.maxSize)
  | none => true

/-- Both sides present and the bid above the ask. -/
def crossed (bid ask : Option Side) : Bool :=
  match bid, ask with
  | some b, some a => decide (a.price < b.price)
  | _, _ => false

def revisionOk (n : Nat) : Bool :=
  decide (n ≤ 4095)

def SaleContents.wellFormed (c : SaleContents) : Bool :=
  c.symbol.wellFormed && revisionOk c.revision && decide (c.price ≤ Config.maxPrice) && decide (1 ≤ c.volume)
    && decide (c.volume ≤ Config.maxSaleVolume) && decide (c.tradeTime < Config.daySeconds)

def QuoteContents.wellFormed (c : QuoteContents) : Bool :=
  c.symbol.wellFormed && revisionOk c.revision && sideOk c.bid && sideOk c.ask && !crossed c.bid c.ask
    && !presenceSpare c.presence

def StateContents.wellFormed (c : StateContents) : Bool :=
  c.symbol.wellFormed && revisionOk c.revision && decide (1 ≤ c.code) && decide (c.code ≤ 3)

/-- Open, high, low and last all absent, or all present with low ≤ open ≤ high and low ≤ last ≤ high. -/
def dayPricesOk (opening high low last : Option Nat) : Bool :=
  match opening, high, low, last with
  | none, none, none, none => true
  | some o, some h, some l, some x => decide (l ≤ o) && decide (o ≤ h) && decide (l ≤ x) && decide (x ≤ h)
  | _, _, _, _ => false

def ReplyContents.wellFormed (c : ReplyContents) : Bool :=
  c.symbol.wellFormed && revisionOk c.revision && priceOk c.previousClose && priceOk c.opening && priceOk c.high
    && priceOk c.low && priceOk c.last && (InstrState.ofCode c.stateCode).isSome && (Tick.ofCode c.tickCode).isSome
    && decide (c.volume ≤ Config.maxDayVolume) && (!c.saturated || c.volume == Config.maxDayVolume)
    && sideOk c.bid && sideOk c.ask && dayPricesOk c.opening c.high c.low c.last && !crossed c.bid c.ask

def Contents.wellFormed : Contents → Bool
  | .sale c => c.wellFormed
  | .quote c => c.wellFormed
  | .state c => c.wellFormed
  | .reply c => c.wellFormed

def Contents.symbol : Contents → Symbol
  | .sale c => c.symbol
  | .quote c => c.symbol
  | .state c => c.symbol
  | .reply c => c.symbol

def Contents.day : Contents → Day
  | .sale c => c.day
  | .quote c => c.day
  | .state c => c.day
  | .reply c => c.day

/-- The 12-bit revision of well-formed contents. -/
def Contents.revision : Contents → Revision
  | .sale c => BitVec.ofNat 12 c.revision
  | .quote c => BitVec.ofNat 12 c.revision
  | .state c => BitVec.ofNat 12 c.revision
  | .reply c => BitVec.ofNat 12 c.revision

/-! ### Revision gates (R10, R18) -/

/-- What a gate decides: ignored, or applied and then made doubtful or not. -/
inductive GateVerdict where
  | ignored
  | applied (thenDoubtful : Bool)
  deriving DecidableEq, Repr

/-- Table 1-4, the gate of SALE, QUOTE and STATE. -/
def reportGate (r : Record) (f : Revision) : GateVerdict :=
  match r.heard, r.revision with
  | true, some rv =>
    let d := revisionDistance f rv
    if d = 0 then .ignored
    else if d = 1 then .applied false
    else if d ≤ 2047 then .applied true
    else .ignored
  | _, _ => .applied true

/-- Table 1-7, the gate of a REPLY. -/
def replyGate (r : Record) (f : Revision) : GateVerdict :=
  match r.heard, r.revision with
  | true, some rv => if revisionDistance f rv ≤ 2047 then .applied false else .ignored
  | _, _ => .applied false

def Contents.gate (c : Contents) (r : Record) : GateVerdict :=
  match c with
  | .reply _ => replyGate r c.revision
  | _ => reportGate r c.revision

/-! ### Application (R11, R13 to R17, R19) -/

/-- Table 1-5: the tick after a round-lot sale at `price` compared with `reference`. -/
def nextTick (reference : Option Nat) (price : Nat) (before : Tick) : Tick :=
  match reference with
  | none => .none
  | some r =>
    if r < price then .up
    else if price < r then .down
    else match before with
      | .up | .zeroUp => .zeroUp
      | .down | .zeroDown => .zeroDown
      | .none => .none

/-- R14: the price a round-lot sale is compared with. -/
def Displayed.reference (d : Displayed) : Option Nat :=
  match d.last with
  | some l => some l
  | none => d.previousClose

/-- R15: the comparison gives higher or lower. -/
def movesPrice (reference : Option Nat) (price : Nat) : Bool :=
  match reference with
  | some r => r != price
  | none => false

/-- R13: the volume and the sale count. -/
def Displayed.count (volume : Nat) (d : Displayed) : Displayed :=
  { d with
    volume := min (d.volume + volume) Config.maxDayVolume
    saturated := d.saturated || decide (Config.maxDayVolume ≤ d.volume + volume)
    saleCount := min (d.saleCount + 1) Config.maxSaleCount }

/-- R14: open, high, low and last. -/
def Displayed.trade (price : Nat) (d : Displayed) : Displayed :=
  match d.last with
  | none => { d with opening := some price, high := some price, low := some price, last := some price }
  | some _ =>
    { d with high := d.high.map (max price), low := d.low.map (min price), last := some price }

/-- R15: the state after a round-lot sale. -/
def tradedState : InstrState → InstrState
  | .notOpened => .trading
  | .delayed => .trading
  | .trading => .trading
  | .halted => .halted
  | .closed => .closed

/-- R13 to R15: a SALE's own changes. -/
def Displayed.sale (price volume : Nat) (d : Displayed) : Displayed :=
  let d1 := d.count volume
  if volume < Config.roundLot then d1
  else { d1.trade price with tick := nextTick d.reference price d.tick, state := tradedState d.state }

/-- R17, Table 1-6: a STATE's own change by its code. -/
def Displayed.instrState (code : Nat) (d : Displayed) : Displayed :=
  match code with
  | 1 => { d with state := .halted }
  | 2 => { d with state := if 0 < d.saleCount then .trading else .notOpened }
  | 3 => { d with state := if d.state = .notOpened then .delayed else d.state }
  | _ => d

/-- R19: the daily fields and the state that a reply carries, doubt cleared. -/
def ReplyContents.displayed (c : ReplyContents) : Displayed :=
  { state := (InstrState.ofCode c.stateCode).getD .notOpened, previousClose := c.previousClose, opening := c.opening,
    high := c.high, low := c.low, last := c.last, tick := (Tick.ofCode c.tickCode).getD .none, volume := c.volume,
    saturated := c.saturated, saleCount := c.saleCount, bid := c.bid, ask := c.ask, doubtful := false }

/-- The displayed fields after the changes of the contents' own kind. -/
def Contents.apply (c : Contents) (d : Displayed) : Displayed :=
  match c with
  | .sale x => d.sale x.price x.volume
  | .quote x => { d with bid := x.bid, ask := x.ask }
  | .state x => d.instrState x.code
  | .reply x => x.displayed

/-- R11, R19: heard, revision and record day, then the changes of the contents' own kind. -/
def Contents.applyTo (c : Contents) (r : Record) : Record :=
  { r with heard := true, revision := some c.revision, recordDay := some c.day, shown := c.apply r.shown }

/-- R15: a round-lot sale whose comparison gave higher or lower starts the flash. -/
def Contents.flashes (c : Contents) (d : Displayed) : Bool :=
  match c with
  | .sale x => decide (Config.roundLot ≤ x.volume) && movesPrice d.reference x.price
  | _ => false

/-! ### Doubt and the Recall Unit's collections (R12, R51, R59) -/

/-- R59, R58: the reply entry of a record goes, its queued frame withdrawn; one whose frame is being sent stays until
its outcome. -/
def Part.dropReply (i : Nat) (p : Part) : Part :=
  match p.recalls.replies.find? fun e => e.record == i with
  | none => p
  | some e =>
    let gone : Part :=
      { p with recalls := { p.recalls with replies := p.recalls.replies.filter fun e => e.record != i } }
    match e.phase with
    | .holding _ => gone
    | .queued age => if p.isQueued age then gone.withdraw age else p

/-- R12: a record is made doubtful; from NONE or UNANSWERED it is LISTED at the tail of the Recall List, and from NONE
its reply entry is abandoned (R59). -/
def Part.makeDoubtful (i : Nat) (p : Part) : Part :=
  match p.records[i]? with
  | none => p
  | some r =>
    let p1 := p.modifyRecord i fun r => { r with shown := { r.shown with doubtful := true } }
    if r.recallState = .none ∨ r.recallState = .unanswered then
      let p2 := p1.setRecallState i .listed
      let p3 := { p2 with recalls := { p2.recalls with list := p2.recalls.list ++ [i] } }
      if r.recallState = .none then p3.dropReply i else p3
    else p1

/-- R51: the slot of a record is freed; its frame is withdrawn if it is still queued. -/
def Part.freeSlot (i : Nat) (p : Part) : Part :=
  let p1 := { p with recalls := { p.recalls with slots := p.recalls.slots.filter fun sl => sl.record != i } }
  match p.recalls.slots.find? fun sl => sl.record == i with
  | some sl =>
    match sl.phase with
    | .awaitingOutcome age => p1.withdraw age
    | .waiting => p1
  | none => p1

/-- R19, R60: an accepted reply satisfies the recall of the record. -/
def Part.satisfyRecall (i : Nat) (before : RecallState) (p : Part) : Part :=
  let p1 := p.setRecallState i .none
  match before with
  | .listed => { p1 with recalls := { p1.recalls with list := p1.recalls.list.filter (· != i) } }
  | .outstanding => p1.freeSlot i
  | .unanswered => p1
  | .none => p1

/-! ### Marks (R24) -/

/-- The row fields of a record whose displayed fields differ between two states of the store. -/
def changedRecord (old new : List Record) (i : Nat) : Option RowFields :=
  match old[i]?, new[i]? with
  | some a, some b => if a.shown = b.shown then none else some (rowFieldsChanged a.shown b.shown)
  | _, _ => none

/-- R24: the board positions and terminal rows that show a record changed since `old` are marked, once each. -/
def Part.markDependents (old : List Record) (p : Part) : Part :=
  let changed := changedRecord old p.records
  { p with
    board := p.board.markAll (p.board.positionsWhere fun pos => (pos.record.bind changed).isSome)
    terminals := p.terminals.map (Terminal.mark changed) }

/-! ### Judgement (R6) -/

/-- R9, R84: an unset session day is adopted with phase OPEN. -/
def Part.adoptDay (d : Day) (p : Part) : Part :=
  if p.clock.session.isNone then { p with clock := { p.clock with session := some ⟨d, .opened⟩ } } else p

/-- R6, steps 4 to 6: the gate, the application, and doubt; an accepted reply satisfies its recall, and a sale that
moves the price starts the flash of the record's positions (R15, R102). -/
def Part.applyContents (c : Contents) (i : Nat) (r : Record) (p : Part) : Part :=
  match c.gate r with
  | .ignored => p
  | .applied thenDoubtful =>
    let p1 := p.modifyRecord i c.applyTo
    let p2 := if c.flashes r.shown then { p1 with board := p1.board.startFlash i } else p1
    match c with
    | .reply _ => p2.satisfyRecall i r.recallState
    | _ => if thenDoubtful then p2.makeDoubtful i else p2

/-- R6, steps 1 to 6. -/
def Part.judgeCore (c : Contents) (p : Part) : Part :=
  if c.wellFormed then
    let p1 := p.adoptDay c.day
    match p1.lookup c.symbol with
    | none => p1
    | some i =>
      match p1.records[i]? with
      | none => p1
      | some r => if p1.day = some c.day then p1.applyContents c i r else p1
  else
    match p.lookup c.symbol with
    | some i => p.makeDoubtful i
    | none => p

/-- R6: one set of contents judged as one event, the dependents marked at its end (step 7). -/
def Part.judge (c : Contents) (p : Part) : Part :=
  (p.judgeCore c).markDependents p.records

/-! ### Rollovers (R21, R22) -/

/-- R21: the OPEN rollover of one record. -/
def Record.openRollover (newDay : Day) (r : Record) : Record :=
  { r with
    recordDay := if r.heard then some newDay else r.recordDay
    lastWhole := none
    shown := { r.shown with
      previousClose := if r.shown.last.isSome then r.shown.last else r.shown.previousClose
      opening := none, high := none, low := none, last := none, bid := none, ask := none, volume := 0,
      saturated := false, saleCount := 0, tick := .none, state := .notOpened } }

/-- R22: the CLOSE rollover of one record. -/
def Record.closeRollover (r : Record) : Record :=
  { r with shown := { r.shown with state := .closed } }

/-- R23: a rollover of every record as one event with the new day and phase. -/
def Part.rollover (f : Record → Record) (session : SessionDay) (p : Part) : Part :=
  ({ p with
    records := p.records.map f
    clock := { p.clock with session := some session } } : Part).markDependents p.records

end Sys2Proof.Machine
end

