-- ==== Sys2Proof/Machine/RecallUnit.lean ====
section
/-! DEFINITION. The Recall Unit (Section 3): recalls queued, their outcomes and expiries, suppression, answers,
cancellation and satisfaction. -/

namespace Sys2Proof.Machine

/-! ### Own recalls (R47 to R50) -/

/-- R48: a refused recall: the slot freed, the record LISTED at the head of the list. -/
def Part.returnToHead (i : Nat) (p : Part) : Part :=
  ({ p with
    recalls := { p.recalls with
      slots := p.recalls.slots.filter fun sl => sl.record != i
      list := i :: p.recalls.list } } : Part).setRecallState i .listed

/-- R48: record `i`, just taken off the list, fills a slot and its RECALL is offered; the pace timer starts. -/
def Part.queueRecall (i : Nat) (p : Part) : Part :=
  let p1 : Part :=
    { p with
      recalls := { p.recalls with
        slots := p.recalls.slots ++ [{ record := i, sendCount := 1, phase := .awaitingOutcome p.line.nextAge }]
        paceRunning := true } }
  let r := (p1.setRecallState i .outstanding).offer (.recallFor i)
  if r.2 then r.1 else r.1.returnToHead i

/-- R47: the conditions under which the head of the list is queued. -/
def Part.mayRecall (p : Part) : Bool :=
  decide (p.recalls.slots.length < Config.recallSlots) && !p.recalls.paceRunning && p.clock.session.isSome
    && !p.line.listenOnly

/-- R47: the test made at the end of every event that can make the conditions true; it queues at most one. -/
def Part.recallTest (p : Part) : Part :=
  match p.recalls.list with
  | i :: rest =>
    if p.mayRecall then ({ p with recalls := { p.recalls with list := rest } } : Part).queueRecall i else p
  | [] => p

/-- R47: the pace timer expires; a stopped timer has no expiry. -/
def Part.paceExpiry (p : Part) : Part :=
  if p.recalls.paceRunning then ({ p with recalls := { p.recalls with paceRunning := false } } : Part).recallTest
  else p

/-- R49: SENT and LINE FAIL start the wait of the slot whose frame it was; a frame whose slot is gone changes nothing. -/
def Part.recallSent (age : Nat) (p : Part) : Part :=
  { p with
    recalls := { p.recalls with
      slots := p.recalls.slots.map fun sl =>
        if sl.phase = .awaitingOutcome age then { sl with phase := .waiting } else sl } }

/-- R50: the re-send of a recall: one more send counted, a new RECALL offered, the pace timer started. -/
def Part.resend (i : Nat) (p : Part) : Part :=
  let p1 : Part :=
    { p with
      recalls := { p.recalls with
        slots := p.recalls.slots.map fun sl =>
          if sl.record = i then
            { sl with sendCount := sl.sendCount + 1, phase := .awaitingOutcome p.line.nextAge }
          else sl
        paceRunning := true } }
  let r := p1.offer (.recallFor i)
  if r.2 then r.1 else r.1.returnToHead i

/-- R50: the wait timer of record `i`'s slot expires; a slot that is not WAITING has no expiry. -/
def Part.waitExpiry (i : Nat) (p : Part) : Part :=
  match p.recalls.slots.find? fun sl => sl.record == i with
  | some sl =>
    if sl.phase ≠ .waiting then p
    else if p.line.listenOnly then
      let p1 := p.freeSlot i
      ({ p1 with recalls := { p1.recalls with list := p1.recalls.list ++ [i] } } : Part).setRecallState i .listed
    else if sl.sendCount < Config.recallSends then (p.resend i).recallTest
    else (((p.freeSlot i).setRecallState i .unanswered).raise .recallUnanswered).recallTest
  | none => p

/-! ### Hearing a peer's RECALL (R52 to R54) -/

/-- R53: suppression of the station's own recall of record `i`. -/
def Part.suppress (i : Nat) (r : Record) (p : Part) : Part :=
  match r.recallState with
  | .listed =>
    if p.recalls.slots.length < Config.recallSlots then
      ({ p with
        recalls := { p.recalls with
          list := p.recalls.list.filter (· != i)
          slots := p.recalls.slots ++ [{ record := i, sendCount := 1, phase := .waiting }] } } : Part).setRecallState
        i .outstanding
    else p
  | .outstanding =>
    match p.recalls.slots.find? fun sl => sl.record == i with
    | some sl =>
      match sl.phase with
      | .awaitingOutcome age =>
        if p.isQueued age then
          let p1 := p.withdraw age
          { p1 with
            recalls := { p1.recalls with
              slots := p1.recalls.slots.map fun sl => if sl.record = i then { sl with phase := .waiting } else sl } }
        else p
      | .waiting => p
    | none => p
  | .unanswered => p
  | .none => p

/-- R56, R54: whether the station may answer from a record. -/
def Part.soundRecord (r : Record) (p : Part) : Bool :=
  r.heard && !r.shown.doubtful && r.recordDay.isSome && r.recordDay == p.day && !p.line.listenOnly

/-- R56: a REPLY is offered for record `i`, whose entry becomes QUEUED; a refused one is abandoned. -/
def Part.queueReply (i : Nat) (p : Part) : Part :=
  let p1 : Part :=
    { p with
      recalls := { p.recalls with
        replies := p.recalls.replies.map fun e =>
          if e.record = i then { e with phase := .queued p.line.nextAge } else e } }
  let r := p1.offer (.reply i)
  if r.2 then r.1
  else { r.1 with recalls := { r.1.recalls with replies := r.1.recalls.replies.filter fun e => e.record != i } }

/-- R56: the holdoff timer of record `i`'s entry expires; an entry that is not HOLDING has no expiry. -/
def Part.holdoffExpiry (i : Nat) (p : Part) : Part :=
  match p.recalls.replies.find? fun e => e.record == i with
  | some e =>
    match e.phase with
    | .holding _ =>
      if ((p.records[i]?).map fun r => p.soundRecord r).getD false then p.queueReply i
      else { p with recalls := { p.recalls with replies := p.recalls.replies.filter fun e => e.record != i } }
    | .queued _ => p
  | none => p

/-- R54: the holdoff of an answer, 0 at the home station. -/
def holdoffMs (home : Option Nat) (station : Nat) : Nat :=
  if home = some station then 0 else 2 * station

/-- R54, R55: the answer to a taken RECALL for record `i`; a holdoff of 0 expires in the same event. -/
def Part.answer (i : Nat) (r : Record) (p : Part) : Part :=
  if p.soundRecord r && p.settings.answerEnabled && !(p.recalls.replies.any fun e => e.record == i)
      && decide (p.recalls.replies.length < Config.replyPlaces) then
    let ms := holdoffMs r.home p.settings.station
    let p1 : Part :=
      { p with recalls := { p.recalls with replies := p.recalls.replies ++ [{ record := i, phase := .holding ms }] } }
    if ms = 0 then p1.holdoffExpiry i else p1
  else p

/-- R52: a heard RECALL: symbol, day, then suppression and answer, each by the record's state before the event. -/
def Part.recallHeard (s : Symbol) (d : Day) (p : Part) : Part :=
  match p.lookup s with
  | none => p
  | some i =>
    match p.records[i]? with
    | none => p
    | some r => if p.day = some d then (p.suppress i r).answer i r else p

/-! ### Hearing a REPLY (R58, R60) -/

/-- R58: whether a heard REPLY cancels the station's own reply for the record. -/
def Part.cancels (c : ReplyContents) (r : Record) (p : Part) : Bool :=
  c.wellFormed && p.day == some c.day &&
    (match r.revision with
     | some rv => decide (revisionDistance (BitVec.ofNat 12 c.revision) rv ≤ 2047)
     | none => false)

/-- R60: cancellation, then the judgement of the contents, which satisfies the recall when they are accepted. -/
def Part.replyHeard (c : ReplyContents) (p : Part) : Part :=
  let p1 :=
    match p.lookup c.symbol with
    | some i =>
      match p.records[i]? with
      | some r => if p.cancels c r then p.dropReply i else p
      | none => p
    | none => p
  p1.judge (.reply c)

/-- R57: the outcome of a REPLY removes the entry whose frame it was. -/
def Part.replyOutcome (age : Nat) (p : Part) : Part :=
  { p with
    recalls := { p.recalls with replies := p.recalls.replies.filter fun e => e.phase != .queued age } }

/-! ### Resets (R46, R62) -/

/-- R46: the start-up sweep, in the order of the directory. -/
def Part.sweep (p : Part) : Part :=
  { p with
    recalls := { Recall.reset with list := p.directory.map (·.2) }
    records := p.records.map fun r => { r with recallState := .listed } }

/-- R62: the outstanding records back at the head of the list, oldest slot first; replies and pace timer cleared. -/
def Part.recallRestart (p : Part) : Part :=
  let back := p.recalls.slots.map (·.record)
  let p1 := back.foldl (fun q i => q.setRecallState i .listed) p
  { p1 with
    recalls := { list := back ++ p.recalls.list, slots := [], replies := [], paceRunning := false } }

/-! ### The commands -/

/-- PACE_EXPIRY (R47). -/
def execPaceExpiry (s : State) : Host.Outcome State Fault Refusal :=
  .next (s.onPart (Part.whenRunning Part.paceExpiry))

/-- WAIT_EXPIRY (R50). -/
def execWaitExpiry (record : Nat) (s : State) : Host.Outcome State Fault Refusal :=
  .next (s.onPart (Part.whenRunning (Part.waitExpiry record)))

/-- HOLDOFF_EXPIRY (R56). -/
def execHoldoffExpiry (record : Nat) (s : State) : Host.Outcome State Fault Refusal :=
  .next (s.onPart (Part.whenRunning (Part.holdoffExpiry record)))

end Sys2Proof.Machine
end

