-- ==== Sys2Proof/Machine/SessionClock.lean ====
section
/-! DEFINITION. The Session Clock and the Timetable (Section 5), and what each block does at the end of an event. -/

namespace Sys2Proof.Machine

/-- The end of an event, or of one Timetable action (R86): the Board Writer and the terminals that are idle choose work,
and the Recall Unit tests whether it may queue a recall (R97, R146, R47; order: log 4). -/
def Part.settle (p : Part) : Part :=
  p.boardKick.termsKick.recallTest

/-! ### Time of day (R79 to R81) -/

/-- R80, R81: the ranges of a weekday, hours, minutes and seconds. -/
def timeInRange (weekday hours minutes seconds : Nat) : Bool :=
  decide (1 ≤ weekday) && decide (weekday ≤ 7) && decide (hours ≤ 23) && decide (minutes ≤ 59)
    && decide (seconds ≤ 59)

def timeOf (weekday hours minutes seconds : Nat) : TimeOfDay :=
  { weekday := weekday, seconds := hours * 3600 + minutes * 60 + seconds }

/-- R79: one second on, midnight giving the next weekday. -/
def TimeOfDay.advance (t : TimeOfDay) : TimeOfDay :=
  if t.seconds < 86399 then { t with seconds := t.seconds + 1 }
  else { weekday := if t.weekday < 7 then t.weekday + 1 else 1, seconds := 0 }

def Part.setTime (t : TimeOfDay) (p : Part) : Part :=
  { p with clock := { p.clock with time := some t } }

/-- R80: SET CLOCK in range: the time, and the day of a station whose day is unset, with phase CLOSED. -/
def Part.setClock (t : TimeOfDay) (day : Option Day) (p : Part) : Part :=
  let p1 := p.setTime t
  match p1.clock.session, day with
  | none, some d => { p1 with clock := { p1.clock with session := some ⟨d, .closed⟩ } }
  | _, _ => p1

/-- R81: a heard CLOCK frame. -/
def Part.clockHeard (weekday hours minutes seconds : Nat) (p : Part) : Part :=
  if timeInRange weekday hours minutes seconds then p.setTime (timeOf weekday hours minutes seconds) else p

/-! ### Session day and phase (R87, R88, R90) -/

/-- A frame offered unless the station is listen-only; its outcome NOT SENT is dropped (R87 to R89, R76). -/
def Part.offerOwn (b : TxBody) (p : Part) : Part :=
  if p.line.listenOnly then p else (p.offer b).1

/-- R87: the day opened with its rollover. -/
def Part.openDay (d : Day) (p : Part) : Part :=
  p.rollover (Record.openRollover d) ⟨d, .opened⟩

/-- R88: the day closed with its rollover. -/
def Part.closeDay (d : Day) (p : Part) : Part :=
  p.rollover Record.closeRollover ⟨d, .closed⟩

/-- R88, R90: the boards are blanked at the close when so configured. -/
def Part.blankAtClose (p : Part) : Part :=
  if p.settings.blankAtClose then { p with board := p.board.requestBlank } else p

/-- R87: the OPEN action. -/
def Part.openAction (p : Part) : Part :=
  match p.clock.session with
  | some ⟨d, .closed⟩ => (p.openDay (d + 1)).offerOwn (.session (d + 1) 0)
  | _ => p

/-- R88: the CLOSE action. -/
def Part.closeAction (p : Part) : Part :=
  match p.clock.session with
  | some ⟨d, .opened⟩ => ((p.closeDay d).offerOwn (.session d 1)).blankAtClose
  | _ => p

/-- R90, Table 5-2: a heard SESSION frame; a phase code other than 0 and 1 is ignored. -/
def Part.sessionHeard (f : Day) (phase : Nat) (p : Part) : Part :=
  match p.clock.session, phase with
  | none, 0 => { p with clock := { p.clock with session := some ⟨f, .opened⟩ } }
  | none, 1 => { p with clock := { p.clock with session := some ⟨f, .closed⟩ } }
  | some ⟨d, .opened⟩, 1 => if f = d then (p.closeDay d).blankAtClose else p
  | some ⟨d, .closed⟩, 0 => if f = d + 1 then p.openDay (d + 1) else p
  | _, _ => p

/-! ### Timetable (R85, R86, R89) -/

/-- R85: the entry matches a minute boundary. -/
def TimetableEntry.matchesAt (weekday hour minute : Nat) (e : TimetableEntry) : Bool :=
  decide (1 ≤ weekday) && e.weekdays.getLsbD (weekday - 1) && decide (weekday ≤ 7)
    && (e.hour == none || e.hour == some hour) && (e.minute == none || e.minute == some minute)

/-- R86 to R89: one action with its full effect. -/
def Part.performAction (hour minute : Nat) (a : TimetableAction) (p : Part) : Part :=
  (match a with
   | .openSession => p.openAction
   | .closeSession => p.closeAction
   | .tapeTime => p.onTape fun env => Tape.join env .routine (.tapeTime hour minute)
   | .repaint => { p with board := p.board.requestRepaint }
   | .sendClock => if p.settings.clockSource then p.offerOwn .clock else p).settle

/-- R86: the matching entries in the order of the table. -/
def Part.minuteBoundary (t : TimeOfDay) (p : Part) : Part :=
  let hour := t.seconds / 3600
  let minute := t.seconds / 60 % 60
  (p.clock.timetable.filter (TimetableEntry.matchesAt t.weekday hour minute)).foldl
    (fun q e => q.performAction hour minute e.action) p

/-- R79: the second timer expires; it is stopped while the clock is UNSET. -/
def Part.secondExpiry (p : Part) : Part :=
  match p.clock.time with
  | none => p
  | some t =>
    let t1 := t.advance
    if t1.seconds % 60 = 0 then (p.setTime t1).minuteBoundary t1 else p.setTime t1

/-! ### The command -/

/-- SECOND_TIMER_EXPIRY (R79). -/
def execSecondTimerExpiry (s : State) : Host.Outcome State Fault Refusal :=
  .next (s.onPart (Part.whenRunning Part.secondExpiry))

end Sys2Proof.Machine
end

