-- ==== Sys2Proof/Machine/Restart.lean ====
section
/-! DEFINITION. What reaches several blocks at once: a sale, a notice, a hold (R66, R168), and the warm restart (R173). -/

namespace Sys2Proof.Machine

/-! ### Sales and notices (R122, R127, R153) -/

/-- R122: whether the contents of a SALE are a tape candidate. -/
def Part.isCandidate (c : SaleContents) (p : Part) : Bool :=
  c.wellFormed && decide (Config.roundLot ≤ c.volume) &&
    (match p.lookup c.symbol with
     | some i => !(((p.records[i]?).map (·.tapeExclude)).getD false)
     | none => !p.settings.heldOnly)

/-- R122, R124: the contents of a SALE at the Ribbon Feeder. -/
def Part.tapeCandidate (c : SaleContents) (p : Part) : Part :=
  if p.isCandidate c then p.onTape fun env => Tape.candidate env c else p

/-- R66, R168: a SALE goes to the Record Store, whose marks reach the boards, and to the Ribbon Feeder (order: log 4). -/
def Part.saleArrives (c : SaleContents) (p : Part) : Part :=
  ((p.judge (.sale c)).boardKick).tapeCandidate c

/-- R127, R153: a NOTICE goes to the ribbon and to the terminals; an urgency that is neither ROUTINE nor URGENT reaches
neither. -/
def Part.noticeArrives (urgency : Nat) (text : List Byte) (p : Part) : Part :=
  if urgency ≤ 1 then
    let p1 := p.onTape fun env => Tape.notice env urgency text
    { p1 with terminals := p1.terminals.map (Terminal.takeNotice { text := text, urgent := urgency == 1 }) }
  else p

/-- R111: a hold request at the Board Writer. -/
def Part.holdArrives (group action : Nat) (p : Part) : Part :=
  { p with board := p.board.requestHold group action }

/-! ### Warm restart (R173) -/

/-- The age of the frame being sent. -/
def Part.sendingAge (p : Part) : Option Nat :=
  p.line.current.map fun x => x.frame.age

/-- R168, R173: the note of a frame being sent: the BUSY entry's frame when it is being sent, else the note kept. -/
def Part.noteAfterRestart (p : Part) : Option Nat :=
  match p.console.port with
  | .busy age => if p.sendingAge = some age then some age else p.console.note
  | _ => p.console.note

/-- R173: the Console Port's values. -/
def Part.consoleRestart (p : Part) : Part :=
  { p with
    console := { p.console with
      port := .ready, result := .none, readBuffer := none, readPointer := 0, note := p.noteAfterRestart } }

/-- R78: the Transmit Queue is emptied; every owner, restarted in the same event, finds nothing for the outcome. -/
def Part.queueRestart (p : Part) : Part :=
  { p with line := { p.line with queue := [] } }

/-- R173: the blocks restart in one event, in the order of the list there; then they choose their work. -/
def Part.warmRestart (p : Part) : Part :=
  let p1 := (p.formatterRestart.recallRestart).queueRestart
  let p2 := ({ p1 with board := p1.board.warmRestart } : Part).boardKick
  let p3 := p2.onTape Tape.warmRestart
  let p4 := { p3 with terminals := p3.terminals.map Terminal.warmRestart }
  p4.consoleRestart.settle

end Sys2Proof.Machine
end

