-- ==== Sys2Proof/Machine/PostConsole.lean ====
section
/-! DEFINITION. The Console Port (Section 9): commands, bodies, validation, outcomes, the record window, flags and mask. -/

namespace Sys2Proof.Machine

/-! ### Port and result -/

def Part.setPort (port : PortState) (p : Part) : Part :=
  { p with console := { p.console with port := port } }

def Part.setResult (r : ResultCode) (p : Part) : Part :=
  { p with console := { p.console with result := r } }

/-- A request finishes: READY with its result (R163). -/
def Part.finish (r : ResultCode) (p : Part) : Part :=
  (p.setPort .ready).setResult r

/-- R167: an entry's frame offered: BUSY with the result left, or QUEUE FULL. A RECALL that an URGENT frame displaced is
back at the head of its list, so the Recall Unit tests (R47). -/
def Part.offerEntry (b : TxBody) (p : Part) : Part :=
  let r := p.offer b
  if r.2 then (r.1.setPort (.busy p.line.nextAge)).recallTest else r.1.finish .queueFull

/-! ### Validation of reports (R165, Table 9-3) -/

/-- R165: a price is in range and a whole number of the instrument's finest fraction. -/
def stepOk (step price : Nat) : Bool :=
  decide (price ≤ Config.maxPrice) && price % (64 / step) == 0

def sideStepOk (step : Nat) (s : Option Side) : Bool :=
  match s with
  | some x => stepOk step x.price
  | none => true

def sideSizeOk (s : Option Side) : Bool :=
  match s with
  | some x => decide (1 ≤ x.size) && decide (x.size ≤ Config.maxSize)
  | none => true

/-- Checks 1 to 4 of Table 9-3: the record that may be reported on, or the first failing result. -/
def Part.reportRecord (s : Symbol) (p : Part) : Except ResultCode Record :=
  if p.line.listenOnly then .error .listenOnly
  else
    match (p.lookup s).bind fun i => p.records[i]? with
    | none => .error .badSymbol
    | some r =>
      if r.home.isSome ∧ r.home ≠ some p.settings.station then .error .notHome
      else if r.shown.doubtful then .error .notCurrent
      else .ok r

/-- Check 5 for a SALE: the day set and OPEN, the record neither HALTED nor CLOSED, the clock SET. -/
def Part.saleStamp (r : Record) (p : Part) : Option (Day × Nat) :=
  match p.clock.session, p.clock.time with
  | some ⟨d, .opened⟩, some t =>
    if r.shown.state = .halted ∨ r.shown.state = .closed then none else some (d, t.seconds)
  | _, _ => none

/-- R167: the record's revision plus 1, modulo 4,096. -/
def nextRevision (r : Record) : Nat :=
  (r.revision.getD 0 + 1).toNat

/-- A completed ENTER SALE body: symbol 5, price 3, volume 3. -/
def Part.judgeSale (b : List Byte) (p : Part) : Part :=
  let price := field b 5 3
  let volume := field b 8 3
  match p.reportRecord (.ofList b) with
  | .error e => p.finish e
  | .ok r =>
    match p.saleStamp r with
    | none => p.finish .notOpen
    | some (d, t) =>
      if !stepOk r.priceStep price then p.finish .badPrice
      else if volume = 0 ∨ Config.maxSaleVolume < volume then p.finish .badVolume
      else p.offerEntry (.sale
        { symbol := r.symbol, day := d, revision := nextRevision r, tradeTime := t, price := price, volume := volume })

/-- A completed ENTER QUOTE body: symbol 5, presence 1, sides; a presence byte that disagrees with the length or has a
spare bit set is BAD ENTRY ahead of Table 9-3 (Table 10-4). -/
def Part.judgeQuote (b : List Byte) (p : Part) : Part :=
  let pr := byteAt b 5
  let bid := sideIf (pr.getLsbD 0) b 6
  let ask := sideIf (pr.getLsbD 1) b (6 + sizeIf (pr.getLsbD 0) 5)
  if b.length ≠ quoteLength 6 pr ∨ presenceSpare pr then p.finish .badEntry
  else
    match p.reportRecord (.ofList b) with
    | .error e => p.finish e
    | .ok r =>
      match p.day with
      | none => p.finish .notOpen
      | some d =>
        if !(sideStepOk r.priceStep bid && sideStepOk r.priceStep ask) then p.finish .badPrice
        else if !(sideSizeOk bid && sideSizeOk ask) || crossed bid ask then p.finish .badQuote
        else p.offerEntry (.quote
          { symbol := r.symbol, day := d, revision := nextRevision r, presence := pr, bid := bid, ask := ask })

/-- A completed ENTER STATE body: symbol 5, code 1. -/
def Part.judgeState (b : List Byte) (p : Part) : Part :=
  let code := field b 5 1
  match p.reportRecord (.ofList b) with
  | .error e => p.finish e
  | .ok r =>
    match p.day with
    | none => p.finish .notOpen
    | some d =>
      if 1 ≤ code ∧ code ≤ 3 then
        p.offerEntry (.state { symbol := r.symbol, day := d, revision := nextRevision r, code := code })
      else p.finish .badState

/-! ### Validation of notices and holds (R166) -/

def Part.judgeNotice (b : List Byte) (p : Part) : Part :=
  let urgency := field b 0 1
  let text := b.drop 1
  if 1 < urgency ∨ text = [] ∨ 64 < text.length then p.finish .badEntry
  else if p.line.listenOnly then p.finish .listenOnly
  else p.offerEntry (.notice urgency text)

def Part.judgeHold (b : List Byte) (p : Part) : Part :=
  let group := field b 0 1
  if 15 < group then p.finish .badEntry
  else if p.line.listenOnly then p.finish .listenOnly
  else if p.board.groupFixed group then p.finish .zoneFixed
  else p.offerEntry (.hold group 0)

def Part.judgeRelease (b : List Byte) (p : Part) : Part :=
  let group := field b 0 1
  if 15 < group then p.finish .badEntry
  else if p.line.listenOnly then p.finish .listenOnly
  else p.offerEntry (.hold group 1)

/-! ### READ RECORD and SET CLOCK (R170) -/

def Part.judgeReadRecord (b : List Byte) (p : Part) : Part :=
  match (p.lookup (.ofList b)).bind fun i => p.records[i]? with
  | none => p.finish .badSymbol
  | some r =>
    ({ p with console := { p.console with readBuffer := some (recordCopy r), readPointer := 0 } } : Part).finish .done

def Part.judgeSetClock (b : List Byte) (p : Part) : Part :=
  let w := field b 0 1
  let h := field b 1 1
  let m := field b 2 1
  let s := field b 3 1
  if timeInRange w h m s then
    ((p.setClock (timeOf w h m s) (if b.length = 5 then some (byteAt b 4) else none)).finish .done).recallTest
  else p.finish .badEntry

/-- R164: a completed body is judged in the event of its last byte. -/
def Part.judgeBody (c : ConsoleCommand) (b : List Byte) (p : Part) : Part :=
  match c with
  | .enterSale => p.judgeSale b
  | .enterQuote => p.judgeQuote b
  | .enterState => p.judgeState b
  | .enterNotice => p.judgeNotice b
  | .hold => p.judgeHold b
  | .release => p.judgeRelease b
  | .readRecord => p.judgeReadRecord b
  | .setClock => p.judgeSetClock b
  | .clearStatus | .abortClear | .repaint | .blank | .warmRestart | .unknown => p.finish .badEntry

/-! ### DATA writes (R164) -/

/-- R164: the declared length, or the next body byte, whose last completes and judges the body; ignored outside
LOADING (R162). -/
def Part.dataWrite (v : Byte) (p : Part) : Part :=
  match p.console.port with
  | .loading c none _ =>
    if lengthAllowed c v.toNat then p.setPort (.loading c (some v.toNat) []) else p.finish .badEntry
  | .loading c (some n) buf =>
    if buf.length + 1 < n then p.setPort (.loading c (some n) (buf ++ [v]))
    else p.judgeBody c (buf ++ [v])
  | _ => p

/-! ### COMMAND writes (R162, R164, R169) -/

/-- A command that carries a body, taken in READY (R164). -/
def Part.beginEntry (c : ConsoleCommand) (p : Part) : Part :=
  p.setPort (.loading c none [])

/-- A command taken in READY (R164, R169, R162). -/
def Part.commandReady (c : ConsoleCommand) (p : Part) : Part :=
  match c with
  | .enterSale | .enterQuote | .enterState | .enterNotice | .hold | .release | .readRecord | .setClock =>
    p.beginEntry c
  | .clearStatus => p.setResult .none
  | .abortClear => p
  | .repaint => (({ p with board := p.board.requestRepaint } : Part).boardKick).setResult .done
  | .blank => (({ p with board := p.board.requestBlank } : Part).boardKick).setResult .done
  | .warmRestart => p.warmRestart
  | .unknown => p.setResult .commandIgnored

/-- R162: a COMMAND write by the status state. -/
def Part.commandWrite (c : ConsoleCommand) (p : Part) : Part :=
  match p.console.port with
  | .ready => p.commandReady c
  | .loading _ _ _ => (p.setPort .aborted).setResult .none
  | .busy _ =>
    match c with
    | .clearStatus => p.setResult .none
    | .warmRestart => p.warmRestart
    | _ => p.setResult .commandIgnored
  | .aborted => if c = .abortClear then (p.setPort .ready).setResult .none else p
  | .readingImage => p
  | .configFault => p

/-! ### Outcomes (R168) -/

/-- R168: what the station does with its own frame when the floor has it. -/
def Part.handOn (b : TxBody) (p : Part) : Part :=
  match b with
  | .sale c => p.saleArrives c
  | .quote c => p.judge (.quote c)
  | .state c => p.judge (.state c)
  | .notice u t => p.noticeArrives u t
  | .hold g a => p.holdArrives g a
  | .recallFor _ | .reply _ | .session _ _ | .clock => p

/-- R168: SENT or LINE FAIL of a console frame, at a BUSY port or at the note that a warm restart left. -/
def Part.entryOutcome (f : QueuedFrame) (sent : Bool) (p : Part) : Part :=
  if p.console.port = .busy f.age then
    let p1 := p.finish (if sent then .sent else .lineFail)
    if sent then (p1.handOn f.body).settle else p1
  else if p.console.note = some f.age then
    let p1 := { p with console := { p.console with note := none } }
    if sent then (p1.handOn f.body).settle else p1
  else p

/-! ### Reads and the mask (R161, R170 to R172) -/

/-- R170: a DATA read returns the byte at the read pointer and moves the pointer on, wrapping after the last; 0 with no
copy, and in the states that answer no DATA read (R174). -/
def Console.dataRead (c : Console) : Console :=
  if c.port = .readingImage ∨ c.port = .configFault then { c with busByte := 0 }
  else
    match c.readBuffer with
    | none => { c with busByte := 0 }
    | some bs =>
      { c with
        busByte := byteAt bs c.readPointer
        readPointer := if c.readPointer + 1 < bs.length then c.readPointer + 1 else 0 }

/-- R171: a FLAGS read returns the flags and clears those returned SET; 0, clearing none, while the image is read. -/
def Console.flagsRead (c : Console) : Console :=
  if c.port = .readingImage then { c with busByte := 0 }
  else { c with busByte := c.flags, flags := 0 }

/-- R172: a MASK write, ignored in CONFIG FAULT and while the image is read (R174). -/
def Console.maskWrite (v : Byte) (c : Console) : Console :=
  if c.port = .readingImage ∨ c.port = .configFault then c else { c with mask := v &&& enableBits }

def Part.onConsole (f : Console → Console) (p : Part) : Part :=
  { p with console := f p.console }

/-! ### The commands -/

/-- ENTER_SALE (R164, R165). -/
def execEnterSale (s : State) : Host.Outcome State Fault Refusal :=
  .next (s.onPart (Part.commandWrite .enterSale))

/-- ENTER_QUOTE (R164, R165). -/
def execEnterQuote (s : State) : Host.Outcome State Fault Refusal :=
  .next (s.onPart (Part.commandWrite .enterQuote))

/-- ENTER_STATE (R164, R165). -/
def execEnterState (s : State) : Host.Outcome State Fault Refusal :=
  .next (s.onPart (Part.commandWrite .enterState))

/-- ENTER_NOTICE (R164, R166). -/
def execEnterNotice (s : State) : Host.Outcome State Fault Refusal :=
  .next (s.onPart (Part.commandWrite .enterNotice))

/-- HOLD (R164, R166). -/
def execHold (s : State) : Host.Outcome State Fault Refusal :=
  .next (s.onPart (Part.commandWrite .hold))

/-- RELEASE (R164, R166). -/
def execRelease (s : State) : Host.Outcome State Fault Refusal :=
  .next (s.onPart (Part.commandWrite .release))

/-- READ_RECORD (R164, R170). -/
def execReadRecord (s : State) : Host.Outcome State Fault Refusal :=
  .next (s.onPart (Part.commandWrite .readRecord))

/-- SET_CLOCK (R164, R80). -/
def execSetClock (s : State) : Host.Outcome State Fault Refusal :=
  .next (s.onPart (Part.commandWrite .setClock))

/-- CLEAR_STATUS (R169). -/
def execClearStatus (s : State) : Host.Outcome State Fault Refusal :=
  .next (s.onPart (Part.commandWrite .clearStatus))

/-- ABORT_CLEAR (R164). -/
def execAbortClear (s : State) : Host.Outcome State Fault Refusal :=
  .next (s.onPart (Part.commandWrite .abortClear))

/-- REPAINT (R169). -/
def execRepaint (s : State) : Host.Outcome State Fault Refusal :=
  .next (s.onPart (Part.commandWrite .repaint))

/-- BLANK (R169). -/
def execBlank (s : State) : Host.Outcome State Fault Refusal :=
  .next (s.onPart (Part.commandWrite .blank))

/-- WARM_RESTART (R173). -/
def execWarmRestart (s : State) : Host.Outcome State Fault Refusal :=
  .next (s.onPart (Part.commandWrite .warmRestart))

/-- UNKNOWN_COMMAND_CODE (R162): a COMMAND write of this code; a code that names a command is that command. -/
def execUnknownCommandCode (code : Byte) (s : State) : Host.Outcome State Fault Refusal :=
  .next (s.onPart (Part.commandWrite (ConsoleCommand.ofCode code)))

/-- DATA_WRITE (R164). -/
def execDataWrite (value : Byte) (s : State) : Host.Outcome State Fault Refusal :=
  .next (s.onPart (Part.dataWrite value))

/-- DATA_READ (R170). -/
def execDataRead (s : State) : Host.Outcome State Fault Refusal :=
  .next (s.onPart (Part.onConsole Console.dataRead))

/-- FLAGS_READ (R171). -/
def execFlagsRead (s : State) : Host.Outcome State Fault Refusal :=
  .next (s.onPart (Part.onConsole Console.flagsRead))

/-- MASK_WRITE (R172). -/
def execMaskWrite (value : Byte) (s : State) : Host.Outcome State Fault Refusal :=
  .next (s.onPart (Part.onConsole (Console.maskWrite value)))

/-- IGNORED_REGISTER_WRITE (R161): a write to FLAGS is ignored. -/
def execIgnoredRegisterWrite (_value : Byte) (s : State) : Host.Outcome State Fault Refusal :=
  .next s

end Sys2Proof.Machine
end

