-- ==== Sys2Proof/Machine/LineEvents.lean ====
section
/-! DEFINITION. Frames accepted and handed on (R64 to R68), and the outcomes of frames sent (R74, R76). -/

namespace Sys2Proof.Machine

/-- R66: an accepted frame handed to the blocks that own its kind. -/
def Part.handFrame (b : FrameBody) (p : Part) : Part :=
  match b with
  | .sale c => p.saleArrives c
  | .quote c => p.judge (.quote c)
  | .state c => p.judge (.state c)
  | .recallFor s d => p.recallHeard s d
  | .reply c => p.replyHeard c
  | .notice u t => p.noticeArrives u t
  | .session d ph => p.sessionHeard d ph
  | .clock w h m s => p.clockHeard w h m s
  | .hold g a => p.holdArrives g a

/-- R67: a frame that carries the station's own number makes the station listen-only and raises DUPLICATE STATION. -/
def Part.checkOrigin (origin : Nat) (p : Part) : Part :=
  if origin = p.settings.station then
    (p.onLine fun l => { l with listenOnly := true }).raise .duplicateStation
  else p

/-- R65 to R67: a transmission judged as a frame; a discarded one changes nothing. -/
def Part.judgeFrame (bytes : List Byte) (p : Part) : Part :=
  match readFrame bytes with
  | none => p
  | some (origin, body) => ((p.checkOrigin origin).handFrame body).settle

/-- R64: whether the transmission that ends is to be judged. An end that no LINE_BUSY announced is one (log 9). -/
def LineSense.judgedAtEnd : LineSense → Bool
  | .quiet => true
  | .busy judged => judged

/-- R64, R73: the end of a transmission. While the station is SENDING its own transmission goes on, and while the Line
Interface is off nothing is judged (R77). -/
def Part.endOfTransmission (bytes : List Byte) (p : Part) : Part :=
  if p.line.driverEnabled then p
  else
    let p1 := p.onLine Line.becomeQuiet
    if p.running ∧ p.line.sense.judgedAtEnd then p1.judgeFrame bytes else p1

/-- Table 4-4: the owner of a frame takes SENT or LINE FAIL. -/
def Part.ownerOutcome (f : QueuedFrame) (sent : Bool) (p : Part) : Part :=
  match f.body with
  | .recallFor _ => p.recallSent f.age
  | .reply _ => p.replyOutcome f.age
  | .session _ _ | .clock => p
  | .sale _ | .quote _ | .state _ | .notice _ _ | .hold _ _ => p.entryOutcome f sent

/-- R71, R74: a send ends: the owner takes the outcome first, then the transmitter is IDLE and takes the next frame. -/
def Part.endSend (sent : Bool) (p : Part) : Part :=
  match p.line.current with
  | none => p
  | some x => ((p.ownerOutcome x.frame sent).onLine fun l => { l with current := none }).takeFrame

/-- R74: all bits read back as sent, while SENDING. -/
def Part.sendComplete (p : Part) : Part :=
  if p.line.driverEnabled then p.endSend true else p

/-- R74, R75: a clash while SENDING: BACKOFF, or LINE FAIL at the eighth attempt. -/
def Part.clash (p : Part) : Part :=
  match p.line.current with
  | none => p
  | some x =>
    if x.phase ≠ .sending then p
    else if x.attempt < Config.sendAttempts then
      p.onLine fun l => { l with current := some { x with phase := .backoff (backoffSlots p.settings.station x.attempt) } }
    else p.endSend false

/-! ### The commands -/

/-- END_OF_TRANSMISSION (R64). -/
def execEndOfTransmission (received : List Byte) (s : State) : Host.Outcome State Fault Refusal :=
  .next (s.onPart (Part.endOfTransmission received))

/-- SEND_COMPLETE (R74). -/
def execSendComplete (s : State) : Host.Outcome State Fault Refusal :=
  .next (s.onPart (Part.whenRunning Part.sendComplete))

/-- CLASH (R74). -/
def execClash (s : State) : Host.Outcome State Fault Refusal :=
  .next (s.onPart (Part.whenRunning Part.clash))

end Sys2Proof.Machine
end

