-- ==== Sys2Proof/Machine/DisplayEvents.lean ====
section
/-! DEFINITION. The events of the panel chain, the ribbon head and the terminals (Sections 6 to 8). -/

namespace Sys2Proof.Machine

/-! ### Panel chain -/

/-- R96, R97: the panel write in flight completes and the Board Writer chooses its next work. -/
def Part.panelWriteComplete (p : Part) : Part :=
  match p.board.op with
  | .idle => p
  | .forming _ _ => p
  | _ => ({ p with board := p.board.writeComplete } : Part).boardRequest

/-- R103: the flash timer of a position expires. -/
def Part.flashExpiry (k : Nat) (p : Part) : Part :=
  match p.board.positions[k]? with
  | some pos => if pos.flash then ({ p with board := p.board.flashExpiry k } : Part).boardKick else p
  | none => p

/-! ### Ribbon head -/

/-- R129; in CONFIG FAULT the 250 ms timer sends a blank when the head is ready (R177). A stopped timer has no expiry. -/
def Part.advanceExpiry (headReady : Bool) (p : Part) : Part :=
  if p.ribbon.advance.isNone then p
  else
    match p.loader.phase with
    | .locked => p.onTape fun env => Tape.advance env p.settings.baseSpeed headReady
    | .fault =>
      { p with
        ribbon := { p.ribbon with
          advance := some Config.faultSpeed, strobed := if headReady then some blankGlyph else none } }
    | .header => p
    | .items => p

/-! ### Terminals -/

/-- R146: a run leaves the line and the terminal chooses its next step. -/
def Part.runComplete (t : TerminalId) (p : Part) : Part :=
  match (p.terminal t).step with
  | some (.run _ _) => (p.setTerminal t (p.terminal t).runComplete).termKick t
  | _ => p

/-- R152: the highlight timer of row 1 to 16. -/
def Part.highlightExpiry (t : TerminalId) (row : Nat) (p : Part) : Part :=
  if row = 0 then p
  else
    match (p.terminal t).rows[row - 1]? with
    | some r =>
      if r.highlight then (p.setTerminal t ((p.terminal t).highlightExpiry (row - 1))).termKick t else p
    | none => p

/-- R155: a character from a terminal's keyboard; one with a framing fault is discarded, and an UNUSED terminal's is
ignored (R144). -/
def Part.keyReceived (t : TerminalId) (b : Byte) (framingFault : Bool) (p : Part) : Part :=
  if framingFault ∨ (p.terminal t).state = .unused then p
  else (p.setTerminal t ((p.terminal t).key (fun s => (p.lookup s).isSome) b)).termKick t

/-- R156: the return key, by which the keyboard line is judged. -/
def Part.returnReceived (t : TerminalId) (p : Part) : Part :=
  p.keyReceived t returnCode false

/-! ### The commands -/

/-- PANEL_WRITE_COMPLETION (R96). The fault blank's writes complete in CONFIG FAULT (R177). -/
def execPanelWriteCompletion (s : State) : Host.Outcome State Fault Refusal :=
  .next (s.onPart Part.panelWriteComplete)

/-- FLASH_TIMER_EXPIRY (R103). -/
def execFlashTimerExpiry (position : Nat) (s : State) : Host.Outcome State Fault Refusal :=
  .next (s.onPart (Part.whenRunning (Part.flashExpiry position)))

/-- ADVANCE_EXPIRY (R129). -/
def execAdvanceExpiry (headReady : Bool) (s : State) : Host.Outcome State Fault Refusal :=
  .next (s.onPart (Part.advanceExpiry headReady))

/-- OUTPUT_RUN_COMPLETION (R146). -/
def execOutputRunCompletion (terminal : TerminalId) (s : State) : Host.Outcome State Fault Refusal :=
  .next (s.onPart (Part.runComplete terminal))

/-- HIGHLIGHT_EXPIRY (R152). -/
def execHighlightExpiry (terminal : TerminalId) (row : Nat) (s : State) : Host.Outcome State Fault Refusal :=
  .next (s.onPart (Part.whenRunning (Part.highlightExpiry terminal row)))

/-- KEY_CHARACTER (R155). -/
def execKeyCharacter (terminal : TerminalId) (code : Byte) (framingFault : Bool) (s : State) :
    Host.Outcome State Fault Refusal :=
  .next (s.onPart (Part.whenRunning (Part.keyReceived terminal code framingFault)))

/-- BACKSPACE (R155). -/
def execBackspace (terminal : TerminalId) (s : State) : Host.Outcome State Fault Refusal :=
  .next (s.onPart (Part.whenRunning (Part.keyReceived terminal backspaceCode false)))

/-- SELECT_PAGE (R157): the return key; the keyboard line decides the command (log 7). -/
def execSelectPage (terminal : TerminalId) (s : State) : Host.Outcome State Fault Refusal :=
  .next (s.onPart (Part.whenRunning (Part.returnReceived terminal)))

/-- SELECT_WATCH (R157): the return key (log 7). -/
def execSelectWatch (terminal : TerminalId) (s : State) : Host.Outcome State Fault Refusal :=
  .next (s.onPart (Part.whenRunning (Part.returnReceived terminal)))

/-- ADD_TO_WATCH (R158): the return key (log 7). -/
def execAddToWatch (terminal : TerminalId) (s : State) : Host.Outcome State Fault Refusal :=
  .next (s.onPart (Part.whenRunning (Part.returnReceived terminal)))

/-- REMOVE_FROM_WATCH (R158): the return key (log 7). -/
def execRemoveFromWatch (terminal : TerminalId) (s : State) : Host.Outcome State Fault Refusal :=
  .next (s.onPart (Part.whenRunning (Part.returnReceived terminal)))

/-- SHOW_DETAIL (R154): the return key (log 7). -/
def execShowDetail (terminal : TerminalId) (s : State) : Host.Outcome State Fault Refusal :=
  .next (s.onPart (Part.whenRunning (Part.returnReceived terminal)))

/-- UNKNOWN_COMMAND (R156): the return key (log 7). -/
def execUnknownCommand (terminal : TerminalId) (s : State) : Host.Outcome State Fault Refusal :=
  .next (s.onPart (Part.whenRunning (Part.returnReceived terminal)))

end Sys2Proof.Machine
end

