-- ==== Sys2Proof/Machine/Loader.lean ====
section
/-! DEFINITION. The Configuration Loader (Section 10): the full reset, items read and accepted or dropped, CONFIG FAULT,
and the configuration lock. -/

namespace Sys2Proof.Machine

/-! ### Full reset (R175, R77, R116) -/

/-- R77: the line sense across a reset that turns the Line Interface off: the station's own transmission stops, and
another station's, still on the line, will not be judged. -/
def Line.senseOff (l : Line) : LineSense :=
  if l.driverEnabled then .quiet
  else match l.sense with
    | .quiet => .quiet
    | .busy _ => .busy false

/-- R175: everything starts again; the panels keep what they last latched (R116), and other stations' use of the line
goes on. -/
def Part.fullReset (p : Part) : Part :=
  { Part.reset with
    line := { Line.reset with sense := p.line.senseOff }
    board := { Board.reset with panels := p.board.panels } }

/-! ### CONFIG FAULT (R177) -/

/-- R177: ESC C on a terminal's line, in a run that begins as R145 gives (log 6). -/
def Terminal.faulted : Terminal :=
  { Terminal.reset with step := some (.run .faultClear clearRun) }

/-- R177: every table discarded, the fault blank begun at panel 0, the 250 ms advance timer started, ESC C on each
terminal line; the event flags stand. -/
def Part.configFault (p : Part) : Part :=
  { Part.reset with
    line := { Line.reset with sense := p.line.sense }
    board := { Board.reset with op := .faultBlanking 0, panels := p.board.panels }
    ribbon := { Ribbon.reset with advance := some Config.faultSpeed }
    terminals := Vector.replicate 8 .faulted
    console := { p.console with port := .configFault }
    loader := { Loader.reset with phase := .fault } }

/-! ### Items accepted or dropped (R176, R4) -/

/-- R176: an item dropped, or kept with a value replaced, asks for CONFIG WARNING. -/
def Part.warnIf (warn : Bool) (p : Part) : Part :=
  if warn then p.raise .configWarning else p

/-- Table 10-5: the header's settings and counts. -/
def Part.takeHeader (s : Settings) (replaced : Bool) (c : ItemCounts) (p : Part) : Part :=
  ({ p with settings := s, loader := { p.loader with phase := .items, counts := c } } : Part).warnIf replaced

/-- R165: the price steps. -/
def isPriceStep (n : Nat) : Bool :=
  n == 8 || n == 16 || n == 32 || n == 64

/-- R4, R176: an instrument: dropped, or the next record index with its directory entry. -/
def Part.takeInstrument (x : InstrumentItem) (p : Part) : Part :=
  if !x.symbol.wellFormed || p.directory.any (fun e => e.1 == x.symbol) || !isPriceStep x.priceStep then p.warnIf true
  else
    let home := if isStation x.home then some x.home else none
    ({ p with
      directory := insertSymbol x.symbol p.records.length p.directory
      records := p.records ++ [Record.fresh x.symbol home x.priceStep x.tapeExclude] } : Part).warnIf
      (decide (63 ≤ x.home))

/-- R176: a dropped layout leaves its number with no layout. -/
def Part.takeLayout (x : Option Layout) (p : Part) : Part :=
  ({ p with board := { p.board with layouts := p.board.layouts ++ [x] } } : Part).warnIf x.isNone

/-- R176: a zone's hold group: 0 to 15, else none. -/
def holdGroupOf (n : Nat) : Option Nat :=
  if n ≤ 15 then some n else none

/-- R95, R176: a zone. -/
def Part.takeZone (x : ZoneItem) (p : Part) : Part :=
  if h : x.number < 16 then
    if p.loader.zonesGiven.contains ⟨x.number, h⟩ then p.warnIf true
    else
      ({ p with
        board := { p.board with
          zones := p.board.zones.set x.number
            { fixed := x.fixed, held := false, group := holdGroupOf x.group, refreshOwed := false } h }
        loader := { p.loader with zonesGiven := ⟨x.number, h⟩ :: p.loader.zonesGiven } } : Part).warnIf
        (decide (16 ≤ x.group) && decide (x.group ≤ 254))
  else p.warnIf true

/-- R176: the record of a position: the symbol's under a field layout, none under a LEGEND, and no position for a symbol
that is not held. -/
def Part.positionRecord (l : Layout) (s : Symbol) (p : Part) : Option (Option Nat) :=
  match l with
  | .legend _ => some none
  | .fields _ => (p.lookup s).map some

/-- R93, R176: a position takes the next number, or is dropped. -/
def Part.acceptPosition (x : PositionItem) (p : Part) : Option Position :=
  match p.board.layout x.layout with
  | none => none
  | some l =>
    match p.positionRecord l x.symbol with
    | none => none
    | some record =>
      if h : x.zone < 16 then
        if x.panel < Config.panels ∧ x.firstCell + l.width ≤ Config.panelCells then
          some { record := record, layout := x.layout, zone := ⟨x.zone, h⟩, panel := x.panel, firstCell := x.firstCell,
                 flash := false }
        else none
      else none

def Part.takePosition (x : PositionItem) (p : Part) : Part :=
  match p.acceptPosition x with
  | some pos => { p with board := { p.board with positions := p.board.positions ++ [pos] } }
  | none => p.warnIf true

/-- R176: a page; a row whose symbol is not held names none. -/
def Part.takePage (number : Nat) (symbols : List Symbol) (p : Part) : Part :=
  if number = 0 ∨ 32 < number ∨ p.pages.any (fun pg => pg.number == number) then p.warnIf true
  else
    let rows := symbols.map fun s => p.lookup s
    ({ p with pages := p.pages ++ [{ number := number, rows := rows }] } : Part).warnIf (rows.any Option.isNone)

/-- R176: an hour or minute of a Timetable entry: below its limit, or 255 for ANY. -/
def timetableField (limit n : Nat) : Option (Option Nat) :=
  if n < limit then some (some n) else if n = 255 then some none else none

/-- R85, R176: a Timetable entry. -/
def Part.takeTimetable (x : TimetableItem) (p : Part) : Part :=
  match timetableField 24 x.hour, timetableField 60 x.minute, TimetableAction.ofCode x.action with
  | some h, some m, some a =>
    { p with
      clock := { p.clock with
        timetable := p.clock.timetable ++ [{ weekdays := x.weekdays, hour := h, minute := m, action := a }] } }
  | _, _, _ => p.warnIf true

/-! ### The read of one item (R175) -/

/-- The sections of the image in their order; `none` is the end of the items. -/
inductive ImageSection where
  | header | instruments | layouts | zones | positions | pages | timetable
  deriving DecidableEq, Repr

/-- R175: where the read stands. -/
def Loader.current (l : Loader) : Option ImageSection :=
  match l.phase with
  | .header => some .header
  | .items =>
    if 0 < l.counts.instruments then some .instruments
    else if 0 < l.counts.layouts then some .layouts
    else if 0 < l.counts.zones then some .zones
    else if 0 < l.counts.positions then some .positions
    else if 0 < l.counts.pages then some .pages
    else if 0 < l.counts.timetable then some .timetable
    else none
  | .locked => none
  | .fault => none

/-- One item of a section fewer to read. -/
def ItemCounts.countDown (s : ImageSection) (c : ItemCounts) : ItemCounts :=
  match s with
  | .header => c
  | .instruments => { c with instruments := c.instruments - 1 }
  | .layouts => { c with layouts := c.layouts - 1 }
  | .zones => { c with zones := c.zones - 1 }
  | .positions => { c with positions := c.positions - 1 }
  | .pages => { c with pages := c.pages - 1 }
  | .timetable => { c with timetable := c.timetable - 1 }

/-- The item of a section read from the bytes at hand, as what it does to the part. -/
def readItem (s : ImageSection) (bs : List Byte) : ItemRead (Part → Part) :=
  let lift {α : Type} (f : α → Part → Part) (r : ItemRead α) : ItemRead (Part → Part) :=
    match r with
    | .short => .short
    | .bad => .bad
    | .got x rest => .got (f x) rest
  match s with
  | .header => lift (fun x => Part.takeHeader x.1 x.2.1 x.2.2) (readHeader bs)
  | .instruments => lift Part.takeInstrument (readInstrument bs)
  | .layouts => lift Part.takeLayout (readLayout bs)
  | .zones => lift Part.takeZone (readZone bs)
  | .positions => lift Part.takePosition (readPosition bs)
  | .pages => lift (fun x => Part.takePage x.1 x.2) (readPage bs)
  | .timetable => lift Part.takeTimetable (readTimetableItem bs)

/-- R175: the bytes of an item counted into the sum, and one item fewer to read. -/
def Loader.consume (s : ImageSection) (taken : List Byte) (l : Loader) : Loader :=
  let sum := sumBytes taken l.sum l.odd
  { l with counts := l.counts.countDown s, sum := sum.1, odd := sum.2 }

/-- The bytes read past the item kept for the next one; past the last item none is kept, since what follows is the
balance word. -/
def Loader.keepRest (rest : List Byte) (l : Loader) : Loader :=
  { l with buffer := if l.current.isSome then rest else [] }

def Part.onLoader (f : Loader → Loader) (p : Part) : Part :=
  { p with loader := f p.loader }

/-- R175, R176: the bytes that come next from the memory; when they complete the item that is due it is checked and
taken or dropped, and a fault found stops the read (R177). -/
def Part.itemRead (bytes : List Byte) (p : Part) : Part :=
  match p.loader.current with
  | none => p
  | some sec =>
    let bs := p.loader.buffer ++ bytes
    match readItem sec bs with
    | .short => p.onLoader fun l => { l with buffer := bs }
    | .bad => p.configFault
    | .got take rest =>
      (take (p.onLoader (Loader.consume sec (bs.take (bs.length - rest.length))))).onLoader (Loader.keepRest rest)

/-! ### Load completion (R175, R178) -/

/-- R175: the sum of the whole image, the balance word included. -/
def Loader.finalSum (balance : Word16) (l : Loader) : Word16 :=
  (sumBytes [balance.extractLsb' 8 8, balance.extractLsb' 0 8] l.sum l.odd).1

/-- Bit 0 is terminal A, bit 7 terminal H (Table 10-5). -/
def Settings.inUse (s : Settings) (t : TerminalId) : Bool :=
  s.terminalsInUse.getLsbD t.val

/-- R3: the values of Table 1-2 beside the configured fields. -/
def Record.afterReset (r : Record) : Record :=
  Record.fresh r.symbol r.home r.priceStep r.tapeExclude

/-- R178, before the blocks choose work: the starting values of each block as its section gives them (R3, R46, R77, R92,
R28, R116, R143, R159, R174). -/
def Part.startingValues (p : Part) : Part :=
  let q : Part :=
    { p with
      records := p.records.map Record.afterReset
      line := { Line.reset with sense := p.line.senseOff, listenOnly := !p.settings.transmitEnabled }
      clock := { Clock.reset with timetable := p.clock.timetable }
      formatter := Formatter.reset
      board := p.board.atLock
      ribbon := Ribbon.atLock p.settings.baseSpeed p.settings.samplePeriod
      terminals := Vector.ofFn fun t => if p.settings.inUse t then Terminal.atLock else Terminal.reset
      console := { Console.reset with port := .ready, flags := p.console.flags, busByte := p.console.busByte }
      loader := { p.loader with phase := .locked, buffer := [] } }
  q.sweep

/-- R178: the lock, and the work begun in the same event: the repaint and the terminals' first pages. -/
def Part.lock (p : Part) : Part :=
  p.startingValues.settle

/-- R175, R178: the load completion, which comes after the last item and no earlier (log 3). -/
def Part.loadCompletion (balance : Word16) (p : Part) : Part :=
  if p.loader.phase = .items ∧ p.loader.current = none then
    if p.loader.finalSum balance = 0 then p.lock else p.configFault
  else p

/-! ### The commands -/

/-- FULL_RESET (R175). -/
def execFullReset (s : State) : Host.Outcome State Fault Refusal :=
  .next (s.onPart Part.fullReset)

/-- CONFIG_ITEM_READ (R176). -/
def execConfigItemRead (bytes : List Byte) (s : State) : Host.Outcome State Fault Refusal :=
  .next (s.onPart (Part.itemRead bytes))

/-- LOAD_COMPLETION (R178). -/
def execLoadCompletion (balance : Word16) (s : State) : Host.Outcome State Fault Refusal :=
  .next (s.onPart (Part.loadCompletion balance))

end Sys2Proof.Machine
end

