-- ==== Sys2Proof/Machine/Dispatch.lean ====
section
/-! DEFINITION. Dispatch: each command to its meaning. -/

namespace Sys2Proof.Machine

def exec (i : Instr) (s : State) : Host.Outcome State Fault Refusal :=
  match i with
  | .fullReset => Sys2Proof.Machine.execFullReset s
  | .configItemRead bytes => Sys2Proof.Machine.execConfigItemRead bytes s
  | .loadCompletion balance => Sys2Proof.Machine.execLoadCompletion balance s
  | .endOfTransmission received => Sys2Proof.Machine.execEndOfTransmission received s
  | .lineBusy => Sys2Proof.Machine.execLineBusy s
  | .interframeGapExpiry => Sys2Proof.Machine.execInterframeGapExpiry s
  | .sendComplete => Sys2Proof.Machine.execSendComplete s
  | .clash => Sys2Proof.Machine.execClash s
  | .backoffExpiry => Sys2Proof.Machine.execBackoffExpiry s
  | .paceExpiry => Sys2Proof.Machine.execPaceExpiry s
  | .waitExpiry record => Sys2Proof.Machine.execWaitExpiry record s
  | .holdoffExpiry record => Sys2Proof.Machine.execHoldoffExpiry record s
  | .boardFormationCompletion => Sys2Proof.Machine.execBoardFormationCompletion s
  | .ribbonFormationCompletion => Sys2Proof.Machine.execRibbonFormationCompletion s
  | .terminalFormationCompletion => Sys2Proof.Machine.execTerminalFormationCompletion s
  | .secondTimerExpiry => Sys2Proof.Machine.execSecondTimerExpiry s
  | .panelWriteCompletion => Sys2Proof.Machine.execPanelWriteCompletion s
  | .flashTimerExpiry position => Sys2Proof.Machine.execFlashTimerExpiry position s
  | .advanceExpiry headReady => Sys2Proof.Machine.execAdvanceExpiry headReady s
  | .outputRunCompletion terminal => Sys2Proof.Machine.execOutputRunCompletion terminal s
  | .highlightExpiry terminal row => Sys2Proof.Machine.execHighlightExpiry terminal row s
  | .keyCharacter terminal code framingFault => Sys2Proof.Machine.execKeyCharacter terminal code framingFault s
  | .backspace terminal => Sys2Proof.Machine.execBackspace terminal s
  | .selectPage terminal => Sys2Proof.Machine.execSelectPage terminal s
  | .selectWatch terminal => Sys2Proof.Machine.execSelectWatch terminal s
  | .addToWatch terminal => Sys2Proof.Machine.execAddToWatch terminal s
  | .removeFromWatch terminal => Sys2Proof.Machine.execRemoveFromWatch terminal s
  | .showDetail terminal => Sys2Proof.Machine.execShowDetail terminal s
  | .enterSale => Sys2Proof.Machine.execEnterSale s
  | .enterQuote => Sys2Proof.Machine.execEnterQuote s
  | .enterState => Sys2Proof.Machine.execEnterState s
  | .enterNotice => Sys2Proof.Machine.execEnterNotice s
  | .hold => Sys2Proof.Machine.execHold s
  | .release => Sys2Proof.Machine.execRelease s
  | .readRecord => Sys2Proof.Machine.execReadRecord s
  | .setClock => Sys2Proof.Machine.execSetClock s
  | .clearStatus => Sys2Proof.Machine.execClearStatus s
  | .abortClear => Sys2Proof.Machine.execAbortClear s
  | .repaint => Sys2Proof.Machine.execRepaint s
  | .blank => Sys2Proof.Machine.execBlank s
  | .warmRestart => Sys2Proof.Machine.execWarmRestart s
  | .dataWrite value => Sys2Proof.Machine.execDataWrite value s
  | .dataRead => Sys2Proof.Machine.execDataRead s
  | .flagsRead => Sys2Proof.Machine.execFlagsRead s
  | .maskWrite value => Sys2Proof.Machine.execMaskWrite value s
  | .ignoredRegisterWrite value => Sys2Proof.Machine.execIgnoredRegisterWrite value s
  | .unknownCommand terminal => Sys2Proof.Machine.execUnknownCommand terminal s
  | .unknownCommandCode code => Sys2Proof.Machine.execUnknownCommandCode code s

end Sys2Proof.Machine
end

