-- ==== Sys2Proof/Safety.lean ====
section
/-! DEFINITION. What holds of every state of the part: invariants that the manual states in its prose, and the part of
the state that the configuration lock keeps (R178). -/

namespace Sys2Proof.Machine

/-! ### Print Pool and compression (R118, R124, R140) -/

/-- The slot numbers on the free list and in the backlog. -/
def Ribbon.slots (r : Ribbon) : List Nat :=
  r.free ++ r.urgent.map Entry.slot ++ r.routine.map Entry.slot

def EntryContent.isSale : EntryContent → Bool
  | .sale _ => true
  | .notice _ | .tapeTime _ _ | .late _ | .current | .omitted _ => false

/-- The number of backlog entries of kind SALE. -/
def Ribbon.saleEntries (r : Ribbon) : Nat :=
  ((r.urgent ++ r.routine).filter fun e => e.content.isSale).length

/-- R118: each slot 0 to 511 is on the free list or holds exactly one entry, never both and never twice. R124: SALE
entries number at most 480. -/
def Ribbon.PoolLaw (r : Ribbon) : Prop :=
  r.slots.Perm (List.range Config.printSlots) ∧ r.saleEntries ≤ 480

/-- R140: the compression level is 0 to 3 and never below the levels that the occupancy and the tape lag give. -/
def Ribbon.LevelLaw (r : Ribbon) : Prop :=
  r.level ≤ 3 ∧ occupancyLevel r.occupancy ≤ r.level ∧ lagLevel r.tapeLag ≤ r.level

/-! ### Transmit Queue (R69 to R71) -/

/-- R69: at most 16 frames wait, in order of their age; R71: while one waits, one is being sent. -/
def Line.QueueLaw (l : Line) : Prop :=
  l.queue.length ≤ Config.queuePlaces ∧ (l.current = none → l.queue = []) ∧
    (l.queue.map QueuedFrame.age).Pairwise (· < ·) ∧ ∀ f ∈ l.queue, f.age < l.nextAge

/-! ### Boards (R95, R100) -/

/-- The Board Writer at rest, as it stands while the image is read and in CONFIG FAULT (R116, R177). -/
def Board.Resting (b : Board) : Prop :=
  b.dirty = [] ∧ b.blankPending = false ∧ b.repaintHeld = false ∧ b.cursor = none ∧
    (match b.op with | .idle | .faultBlanking _ => True | .forming _ _ | .writing _ _ _ | .blanking _ => False)

/-- R100: the Dirty Queue holds each position at most once, only positions of the table, none of a protected zone. -/
def Board.DirtyLaw (b : Board) : Prop :=
  b.dirty.Nodup ∧ ∀ k ∈ b.dirty, ∃ z, b.zoneOf k = some z ∧ (b.zone z).isProtected = false

/-- R95: a zone that is FIXED keeps refresh owed no. -/
def Board.FixedLaw (b : Board) : Prop :=
  ∀ z : ZoneId, (b.zone z).fixed = true → (b.zone z).refreshOwed = false

/-- 6.3: the panels' latched cells stand once each, in order of panel and cell. -/
def Board.PanelLaw (b : Board) : Prop :=
  (b.panels.map Prod.fst).Pairwise (· < ·)

/-- The status state agrees with the load (R174): the image is read while the Loader reads, CONFIG FAULT with it. -/
def Part.PortLaw (p : Part) : Prop :=
  (p.console.port = .readingImage ↔ p.loader.phase = .header ∨ p.loader.phase = .items) ∧
    (p.console.port = .configFault ↔ p.loader.phase = .fault)

/-- The boards' laws together, with the rest that the load keeps. -/
def Part.BoardLaw (p : Part) : Prop :=
  p.board.DirtyLaw ∧ p.board.FixedLaw ∧ p.board.PanelLaw ∧ p.PortLaw ∧
    (p.running = false → p.board.Resting)

/-! ### Records (R2, 0.5, R12) -/

/-- R2 and the ranges of 0.5: open, high, low and last come and go together with low ≤ open, last ≤ high; the sides do
not cross; prices, sizes, volume and sale count are in range; a saturated volume stands at its limit. -/
def Displayed.Shape (d : Displayed) : Prop :=
  dayPricesOk d.opening d.high d.low d.last = true ∧ priceOk d.previousClose = true ∧ priceOk d.high = true ∧
    crossed d.bid d.ask = false ∧ sideOk d.bid = true ∧ sideOk d.ask = true ∧
    d.volume ≤ Config.maxDayVolume ∧ (d.saturated = true → d.volume = Config.maxDayVolume) ∧
    d.saleCount ≤ Config.maxSaleCount

/-- R2: the shape, and a NEVER HEARD record is doubtful with no revision and no day. -/
def Record.Shape (r : Record) : Prop :=
  r.shown.Shape ∧
    (r.heard = false → r.revision = none ∧ r.recordDay = none ∧ r.shown.doubtful = true)

def Part.RecordLaw (p : Part) : Prop :=
  ∀ r ∈ p.records, r.Shape

/-! ### Terminals and console (R144, R155, R171, R172) -/

/-- R144, R155: at most 16 watched symbols, none twice, and at most 16 kept characters. -/
def Terminal.KeyLaw (t : Terminal) : Prop :=
  t.watch.length ≤ Config.watchPlaces ∧ t.watch.Nodup ∧ t.keyLine.length ≤ Config.keyPlaces

/-- Table 10-3: bits 6 and 7 of FLAGS and MASK read 0. -/
def Console.BitLaw (c : Console) : Prop :=
  c.flags &&& 0xC0 = 0 ∧ c.mask &&& 0xC0 = 0

/-! ### Recall Unit (R45, R47, R55) -/

/-- R47, R55: at most 4 slots are in use and at most 8 answers are held, one per record. -/
def Recall.SizeLaw (u : Recall) : Prop :=
  u.slots.length ≤ Config.recallSlots ∧ u.replies.length ≤ Config.replyPlaces ∧
    (u.replies.map ReplyEntry.record).Nodup

def Part.recallStateOf (p : Part) (i : Nat) : Option RecallState :=
  (p.records[i]?).map (·.recallState)

/-- The frame that a slot awaits the outcome of. -/
def Slot.awaited (sl : Slot) : Option Nat :=
  match sl.phase with
  | .awaitingOutcome age => some age
  | .waiting => none

/-- R49: no two slots await one frame, and a queued frame that a slot awaits is the RECALL of the slot's record. -/
def Part.AwaitLaw (p : Part) : Prop :=
  (p.recalls.slots.filterMap Slot.awaited).Nodup ∧
    (∀ sl ∈ p.recalls.slots, ∀ age, sl.awaited = some age →
      age < p.line.nextAge ∧ ∀ f ∈ p.line.queue, f.age = age → f.body = .recallFor sl.record) ∧
    ∀ f ∈ p.line.queue, f.age < p.line.nextAge

/-- R45: a record is on the list, once, exactly while its recall state is LISTED; R48: it has one slot exactly while
OUTSTANDING; R12: it is doubtful while LISTED, OUTSTANDING or UNANSWERED. -/
def Part.ListLaw (p : Part) : Prop :=
  p.recalls.list.Nodup ∧ (∀ i, i ∈ p.recalls.list ↔ p.recallStateOf i = some .listed) ∧
    (p.recalls.slots.map Slot.record).Nodup ∧
    (∀ i, i ∈ p.recalls.slots.map Slot.record ↔ p.recallStateOf i = some .outstanding) ∧
    ∀ r ∈ p.records, r.recallState ≠ .none → r.shown.doubtful = true

/-- The Recall Unit's law: the directory names each record once (R4), and while the station runs the lists agree with
the records. -/
def Part.RecallLaw (p : Part) : Prop :=
  (p.directory.map Prod.snd).Perm (List.range p.records.length) ∧
    (p.running = true → p.ListLaw ∧ p.AwaitLaw)

/-! ### The configuration lock (R178) -/

/-- What the image configures and the lock keeps (R178). -/
structure Configured where
  settings : Settings
  directory : List (Symbol × Nat)
  instruments : List (Symbol × Option Nat × Nat × Bool)
  layouts : List (Option Layout)
  positions : List (Option Nat × Nat × ZoneId × Nat × Nat)
  zones : List (Bool × Option Nat)
  pages : List Page
  timetable : List TimetableEntry
  deriving DecidableEq, Repr

def Part.configured (p : Part) : Configured :=
  { settings := p.settings
    directory := p.directory
    instruments := p.records.map fun r => (r.symbol, r.home, r.priceStep, r.tapeExclude)
    layouts := p.board.layouts
    positions := p.board.positions.map fun q => (q.record, q.layout, q.zone, q.panel, q.firstCell)
    zones := p.board.zones.toList.map fun z => (z.fixed, z.group)
    pages := p.pages
    timetable := p.clock.timetable }

end Sys2Proof.Machine
end

