-- ==== Sys2Proof/Certificates/Slice0/Obligations.lean ====
section
/-! DEFINITION. The statements for the provers: what a step does, the invariants that every step keeps, and what each
command does, from the numbered rules of the spec. -/

open Sys2Proof Sys2Proof.Machine

/-! ### Words that the statements share -/

namespace Sys2Proof.Machine

/-- The records with the recall states set aside, which the Recall Unit alone changes (R7). -/
def Part.quotations (p : Part) : List Record :=
  p.records.map fun r => { r with recallState := .none }

/-- The state with another part. -/
def State.withPart (s : State) (p : Part) : State :=
  { s with part := p }

/-- The console commands that carry a body, with the rows that give them (Table 10-4). -/
def bodyCommands : List (Instr × ConsoleCommand) :=
  [(.enterSale, .enterSale), (.enterQuote, .enterQuote), (.enterState, .enterState), (.enterNotice, .enterNotice),
   (.hold, .hold), (.release, .release), (.readRecord, .readRecord), (.setClock, .setClock)]

/-- Every row that is a write to COMMAND of one of the thirteen codes (Table 10-3). -/
def commandWrites : List Instr :=
  [.enterSale, .enterQuote, .enterState, .enterNotice, .hold, .release, .readRecord, .clearStatus, .abortClear,
   .setClock, .repaint, .blank, .warmRestart]

/-- A keyboard event of a terminal (R155, R156). -/
def Instr.keyOf (t : TerminalId) : Instr → Bool
  | .keyCharacter u _ _ | .backspace u | .selectPage u | .selectWatch u | .addToWatch u | .removeFromWatch u
  | .showDetail u | .unknownCommand u => u == t
  | _ => false

/-- What an item read leaves beside its own table (R175, R176): one item fewer to read, its bytes counted into the sum,
and CONFIG WARNING when one is due. -/
def Part.afterItem (sec : ImageSection) (bytes : List Byte) (warn : Bool) (p : Part) : Part :=
  { p with
    loader := { p.loader with
      counts := p.loader.counts.countDown sec
      buffer := []
      sum := (sumBytes bytes p.loader.sum p.loader.odd).1
      odd := (sumBytes bytes p.loader.sum p.loader.odd).2 }
    console := { p.console with flags := if warn then p.console.flags ||| 16 else p.console.flags } }

/-- The place of a class in the order of sending (R71). -/
def FrameClass.rank : FrameClass → Nat
  | .urgent => 2
  | .normal => 1
  | .low => 0

/-- The slots of a band in the order in which a warm restart leaves it (R143). -/
def restartOrder (es : List Entry) : List Nat :=
  (es.filter fun e => e.status != .waiting).map Entry.slot ++ (es.filter fun e => e.status == .waiting).map Entry.slot

/-- A console port that has finished a request with a result (R163), all else as it was. -/
def State.finished (r : ResultCode) (s : State) : State :=
  s.withPart { s.part with console := { s.part.console with port := .ready, result := r } }

/-- An entry's frame queued as the youngest and the port BUSY with it (R167); the frame is named by its age (log 11). -/
def State.offered (b : TxBody) (s : State) : State :=
  s.withPart { s.part with
    console := { s.part.console with port := .busy s.part.line.nextAge }
    line := { s.part.line with
      queue := s.part.line.queue ++ [⟨s.part.line.nextAge, b⟩], nextAge := s.part.line.nextAge + 1 } }

end Sys2Proof.Machine

/-! ### The machine -/

/-- The step of a state with a command in front is exec of it with the queue's rest; an empty queue idles (log 1). -/
def Obligations.StepTakesFront : Prop :=
  (∀ (c : Instr) (rest : List Instr) (s : State),
    step { s with pending := c :: rest } = exec c { s with pending := rest }) ∧
  ∀ s : State, s.pending = [] → step s = .next s

/-- The part right after the RESET pin, in the values that the spec gives for the load (R174, R77, R92, R28, R116,
R143), with every terminal UNUSED, which the spec gives only at the lock: the model's choice (log 10; of the values that
logs 10 and 14 name, no other is stated here). -/
def Obligations.ResetValues : Prop :=
  State.reset.pending = [] ∧
  let p := State.reset.part
  p.loader.phase = .header ∧ p.console.statusByte = 0x40 ∧ p.console.flags = 0 ∧ p.console.maskByte = 0 ∧
  p.console.attn = false ∧ p.line.driverEnabled = false ∧ p.line.queue = [] ∧ p.line.current = none ∧
  p.clock.time = none ∧ p.clock.session = none ∧ p.clock.timetable = [] ∧ p.formatter.forming = none ∧
  p.formatter.lastServed = 7 ∧ p.records = [] ∧ p.directory = [] ∧ p.board.positions = [] ∧ p.board.op = .idle ∧
  p.ribbon.advance = none ∧ p.ribbon.strobed = none ∧ ∀ t, (p.terminal t).state = .unused

/-! ### Invariants -/

/-- Every invariant below holds of the state after reset. -/
def Obligations.InvariantsAtReset : Prop :=
  let p := State.reset.part
  p.ribbon.PoolLaw ∧ p.ribbon.LevelLaw ∧ p.line.QueueLaw ∧ p.BoardLaw ∧ p.RecordLaw ∧ p.RecallLaw ∧
  (∀ t, (p.terminal t).KeyLaw) ∧ p.console.BitLaw ∧ p.recalls.SizeLaw

/-- R118, R124: each of the 512 slots stays either free or with one entry, and SALE entries stay at most 480. -/
def Obligations.PoolLawKept : Prop :=
  ∀ s t : State, s.part.ribbon.PoolLaw → step s = .next t → t.part.ribbon.PoolLaw

/-- R140: the compression level stays 0 to 3 and never below the occupancy level or the lag level. -/
def Obligations.LevelLawKept : Prop :=
  ∀ s t : State, s.part.ribbon.LevelLaw → step s = .next t → t.part.ribbon.LevelLaw

/-- R69, R71: the Transmit Queue stays at most 16 long, in order of age, and empty while the transmitter is IDLE (a
frame's age as its name is log 11). -/
def Obligations.QueueLawKept : Prop :=
  ∀ s t : State, s.part.line.QueueLaw → step s = .next t → t.part.line.QueueLaw

/-- R100, R95: the Dirty Queue stays without repeats and without positions of protected zones, and FIXED zones owe no
refresh. -/
def Obligations.BoardLawKept : Prop :=
  ∀ s t : State, s.part.BoardLaw → step s = .next t → t.part.BoardLaw

/-- R2: every record keeps its shape, whatever frames, rollovers and recalls reach it. -/
def Obligations.RecordLawKept : Prop :=
  ∀ s t : State, s.part.RecordLaw → step s = .next t → t.part.RecordLaw

/-- R45, R12: the Recall List holds exactly the LISTED records, each once, the slots exactly the OUTSTANDING ones, and
all of these are doubtful. -/
def Obligations.RecallLawKept : Prop :=
  ∀ s t : State, s.part.RecallLaw → step s = .next t → t.part.RecallLaw

/-- R144, R155, Table 10-3, R47, R55: watch lists, keyboard lines, flag bytes, slots and the Reply List stay within their
limits. -/
def Obligations.LimitLawsKept : Prop :=
  ∀ s t : State, step s = .next t →
    ((∀ k, (s.part.terminal k).KeyLaw) → ∀ k, (t.part.terminal k).KeyLaw) ∧
    (s.part.console.BitLaw → t.part.console.BitLaw) ∧ (s.part.recalls.SizeLaw → t.part.recalls.SizeLaw)

/-- R178: while the lock is set no command but FULL_RESET changes what the image configured, nor clears the lock. -/
def Obligations.LockKeepsConfiguration : Prop :=
  ∀ (c : Instr) (s : State), c ≠ .fullReset → s.part.loader.phase = .locked →
    ∃ t, exec c s = .next t ∧ t.part.loader.phase = .locked ∧ t.part.configured = s.part.configured

/-- R177: CONFIG FAULT holds until the next full reset; meanwhile the port stays in it and no record, recall, backlog
entry, frame, clock or configured table changes (what an event of a block that is off does is the model's reading: logs
3 and 15). -/
def Obligations.FaultHoldsUntilReset : Prop :=
  ∀ (c : Instr) (s : State), c ≠ .fullReset → s.part.loader.phase = .fault → s.part.console.port = .configFault →
    ∃ t, exec c s = .next t ∧ t.part.loader.phase = .fault ∧ t.part.console.port = .configFault ∧
      t.part.configured = s.part.configured ∧ t.part.records = s.part.records ∧ t.part.recalls = s.part.recalls ∧
      t.part.clock = s.part.clock ∧ t.part.line.queue = s.part.line.queue ∧
      t.part.line.current = s.part.line.current ∧ t.part.ribbon.urgent = s.part.ribbon.urgent ∧
      t.part.ribbon.routine = s.part.ribbon.routine

/-! ### Loading (Section 10) -/

/-- R175: FULL_RESET takes every block to its value at reset, and the panels keep what they last latched (R116). A line on
which another station sends stays busy with what will not be judged; one that is quiet, or that the station itself
drives, is quiet after it (R77; the line's sense is the model's choice: log 9). -/
def Obligations.FullResetRestarts : Prop :=
  ∀ s : State, ∃ t, exec .fullReset s = .next t ∧ t.pending = s.pending ∧
    t.part.board.panels = s.part.board.panels ∧ t.part.line.sense ≠ .busy true ∧
    t.part.line.driverEnabled = false ∧
    (∀ b, s.part.line.sense = .busy b → s.part.line.driverEnabled = false → t.part.line.sense = .busy false) ∧
    (s.part.line.sense = .quiet ∨ s.part.line.driverEnabled = true → t.part.line.sense = .quiet) ∧
    ({ t.part with board := { t.part.board with panels := [] }, line := { t.part.line with sense := .quiet } } : Part)
      = Part.reset

/-- R178: at a load completion whose sum is 0 every block takes its starting values, the repaint's first position is
being formed, and each terminal in use draws page 1 (the form of the heading run is the model's choice: log 6). -/
def Obligations.LockStartsPart : Prop :=
  ∀ (s : State) (balance : Word16), s.part.loader.phase = .items → s.part.loader.counts = ⟨0, 0, 0, 0, 0, 0⟩ →
    s.part.loader.finalSum balance = 0 →
    ∃ t, exec (.loadCompletion balance) s = .next t ∧
      t.part.loader.phase = .locked ∧ t.part.settings = s.part.settings ∧ t.part.directory = s.part.directory ∧
      t.part.pages = s.part.pages ∧
      t.part.console = { s.part.console with
        port := .ready, result := .none, readBuffer := none, readPointer := 0, mask := 0, note := none } ∧
      t.part.records = s.part.records.map (fun r =>
        { Record.fresh r.symbol r.home r.priceStep r.tapeExclude with recallState := .listed }) ∧
      t.part.recalls = { list := s.part.directory.map Prod.snd, slots := [], replies := [], paceRunning := false } ∧
      t.part.line.current = none ∧ t.part.line.queue = [] ∧
      t.part.line.listenOnly = !s.part.settings.transmitEnabled ∧
      t.part.clock = { time := none, session := none, timetable := s.part.clock.timetable } ∧
      t.part.ribbon = { Ribbon.reset with
        advance := some (min s.part.settings.baseSpeed 20), countdown := s.part.settings.samplePeriod } ∧
      t.part.board.dirty = [] ∧ t.part.board.blankPending = false ∧ t.part.board.repaintHeld = false ∧
      t.part.board.panels = s.part.board.panels ∧
      t.part.board.positions = s.part.board.positions.map (fun q => { q with flash := false }) ∧
      (∀ z, t.part.board.zone z = { s.part.board.zone z with held := false, refreshOwed := false }) ∧
      (s.part.board.positions ≠ [] → t.part.board.op = .forming 0 .cursor ∧ t.part.board.cursor = some 1) ∧
      (s.part.board.positions = [] → t.part.board.op = .idle ∧ t.part.board.cursor = none) ∧
      ∀ k : TerminalId,
        (s.part.settings.terminalsInUse.getLsbD k.val = true →
          (t.part.terminal k).state = .drawing ∧ (t.part.terminal k).selection = .page 1 ∧
          (t.part.terminal k).watch = [] ∧ (t.part.terminal k).message = none ∧
          (t.part.terminal k).step = some (.run .heading (headingRun (.page 1)))) ∧
        (s.part.settings.terminalsInUse.getLsbD k.val = false → (t.part.terminal k).state = .unused)

/-- R175, R177: a sum other than 0 is a fault: every table is discarded, the event flags stand, the fault blank
begins at panel 0, the advance timer runs at 250 ms and every terminal line is sent ESC C (the terminals' run and
the fault blank as an operation are the model's choice: logs 6 and 18). -/
def Obligations.BadSumFaults : Prop :=
  ∀ (s : State) (balance : Word16), s.part.loader.phase = .items → s.part.loader.counts = ⟨0, 0, 0, 0, 0, 0⟩ →
    s.part.loader.finalSum balance ≠ 0 →
    ∃ t, exec (.loadCompletion balance) s = .next t ∧
      t.part.loader.phase = .fault ∧ t.part.console.port = .configFault ∧
      t.part.console.flags = s.part.console.flags ∧ t.part.records = [] ∧ t.part.directory = [] ∧
      t.part.pages = [] ∧ t.part.board.positions = [] ∧ t.part.board.layouts = [] ∧ t.part.clock = Clock.reset ∧
      t.part.ribbon.urgent = [] ∧ t.part.ribbon.routine = [] ∧ t.part.ribbon.advance = some 4 ∧
      t.part.board.op = .faultBlanking 0 ∧ t.part.board.panels = s.part.board.panels ∧
      t.part.line.current = none ∧ t.part.line.queue = [] ∧
      ∀ k, (t.part.terminal k).state = .unused ∧
        (t.part.terminal k).step = some (.run .faultClear (moveTo 1 1 ++ [.esc, .glyph (.ch 67)]))

/-- R1, R4, R176: an instrument item that is accepted takes the next record index with the values of Table 1-2, its
symbol is then found, the directory stays in symbol order, and a home of 63 or above is taken as none with CONFIG
WARNING. An item that is dropped raises CONFIG WARNING. Either way nothing else changes but the count of items still to
read and the sum of the bytes read (the item brought whole is one reading of log 8). -/
def Obligations.InstrumentItemJudged : Prop :=
  ∀ (s : State) (sym : Symbol) (home priceStep fl : Byte), s.part.loader.phase = .items →
    0 < s.part.loader.counts.instruments → s.part.loader.buffer = [] →
    ∃ t, exec (.configItemRead (sym.bytes ++ [home, priceStep, fl])) s = .next t ∧
      t.pending = s.pending ∧
      t.part = { s.part with
        records := t.part.records
        directory := t.part.directory
        console := { s.part.console with flags := t.part.console.flags }
        loader := { s.part.loader with
          counts := { s.part.loader.counts with instruments := s.part.loader.counts.instruments - 1 }
          sum := (sumBytes (sym.bytes ++ [home, priceStep, fl]) s.part.loader.sum s.part.loader.odd).1 } } ∧
      (if sym.wellFormed = true ∧ (∀ e ∈ s.part.directory, e.1 ≠ sym) ∧
          (priceStep = 8 ∨ priceStep = 16 ∨ priceStep = 32 ∨ priceStep = 64) then
        t.part.records = s.part.records ++ [Record.fresh sym
          (if 1 ≤ home.toNat ∧ home.toNat ≤ 62 then some home.toNat else none) priceStep.toNat (fl.getLsbD 0)] ∧
        t.part.lookup sym = some s.part.records.length ∧
        (∀ x, x ≠ sym → t.part.lookup x = s.part.lookup x) ∧
        (s.part.directory.Pairwise (fun a b => a.1.before b.1 = true) →
          t.part.directory.Pairwise (fun a b => a.1.before b.1 = true)) ∧
        t.part.console.flags = s.part.console.flags ||| (if 63 ≤ home.toNat then 16 else 0)
      else
        t.part.records = s.part.records ∧ t.part.directory = s.part.directory ∧
        t.part.console.flags = s.part.console.flags ||| 16)

/-- R175, R176, Table 10-5: a header whose station number is not 1 to 62, or with a count above its capacity, is a fault;
another gives the settings, each out of its range at its nearest limit with CONFIG WARNING, and the counts. A field layout
or a LEGEND takes the next layout number; one with a bad kind or width, or of no fields or characters, leaves its number
without layout, with CONFIG WARNING; more than 6 fields, more than 48 characters or another type is a fault. (An item
brought whole is one reading of log 8; the width of MARK and ARROW is judged before it becomes 1: log 16.) -/
def Obligations.HeaderAndLayoutsJudged : Prop :=
  (∀ (s : State) (st fl terms base period late flash hi pace filter nl nz ng nt : Byte) (ni np : Nat),
    s.part.loader.phase = .header → s.part.loader.buffer = [] → ni < 65536 → np < 65536 →
    let bytes := [st, fl, terms, base, period, late, flash, hi, pace, filter] ++ toBytes 2 ni ++ [nl, nz] ++
      toBytes 2 np ++ [ng, nt]
    let counts : ItemCounts := ⟨ni, nl.toNat, nz.toNat, np, ng.toNat, nt.toNat⟩
    let ok := (1 ≤ st.toNat ∧ st.toNat ≤ 62) ∧ ni ≤ 1024 ∧ nl.toNat ≤ 8 ∧ nz.toNat ≤ 16 ∧ np ≤ 256 ∧ ng.toNat ≤ 32 ∧
      nt.toNat ≤ 16
    (¬ ok → exec (.configItemRead bytes) s = .next (s.withPart s.part.configFault)) ∧
    let replaced := base.toNat < 4 ∨ 16 < base.toNat ∨ period = 0 ∨ 64 < period.toNat ∨ 30 < late.toNat ∨ flash = 0 ∨
      30 < flash.toNat ∨ hi = 0 ∨ 30 < hi.toNat ∨ (1 ≤ pace.toNat ∧ pace.toNat < 10) ∨ 250 < pace.toNat ∨ 1 < filter.toNat
    let p := s.part.afterItem .header bytes (decide replaced)
    (ok → exec (.configItemRead bytes) s = .next (s.withPart
      { p with
        loader := { p.loader with phase := .items, counts := counts }
        settings :=
          { station := st.toNat, transmitEnabled := fl.getLsbD 0, answerEnabled := fl.getLsbD 1
            clockSource := fl.getLsbD 2, blankAtClose := fl.getLsbD 3, terminalsInUse := terms
            baseSpeed := max 4 (min base.toNat 16), samplePeriod := max 1 (min period.toNat 64)
            lateThreshold := if late = 0 then 3 else min late.toNat 30, flashHold := max 1 (min flash.toNat 30)
            highlightHold := max 1 (min hi.toNat 30)
            recallPace := if pace = 0 then 40 else max 10 (min pace.toNat 250), heldOnly := filter == 1 } }))) ∧
  ∀ s : State, s.part.loader.phase = .items → s.part.loader.counts.instruments = 0 →
    0 < s.part.loader.counts.layouts → s.part.loader.buffer = [] →
    let taken := fun (bytes : List Byte) (l : Option Layout) =>
      exec (.configItemRead bytes) s = .next (s.withPart { s.part.afterItem .layouts bytes l.isNone with
        board := { s.part.board with layouts := s.part.board.layouts ++ [l] } })
    (∀ items : List (Byte × Byte), items.length ≤ 6 →
      taken ([0, BitVec.ofNat 8 items.length] ++ items.flatMap fun e => [e.1, e.2])
        (if items ≠ [] ∧ ∀ e ∈ items, (1 ≤ e.1.toNat ∧ e.1.toNat ≤ 10) ∧ 1 ≤ e.2.toNat ∧ e.2.toNat ≤ 8 then
          some (.fields (items.filterMap fun e => (FieldKind.ofCode e.1.toNat).map fun k =>
            (k, if k = .mark ∨ k = .arrow then 1 else e.2.toNat)))
        else none)) ∧
    (∀ text : List Byte, text.length ≤ 48 →
      taken ([1, BitVec.ofNat 8 text.length] ++ text) (if text = [] then none else some (.legend text))) ∧
    (∀ n : Byte, 6 < n.toNat → exec (.configItemRead [0, n]) s = .next (s.withPart s.part.configFault)) ∧
    (∀ n : Byte, 48 < n.toNat → exec (.configItemRead [1, n]) s = .next (s.withPart s.part.configFault)) ∧
    ∀ kind : Byte, 1 < kind.toNat → exec (.configItemRead [kind]) s = .next (s.withPart s.part.configFault)

/-- R176, R93, R95, R85, Table 10-5: a zone, a position, a page or a Timetable entry is entered in its table, or dropped
with CONFIG WARNING on the grounds of R176; a hold group of 16 to 254 is taken as none, and a row whose symbol is not held
names none, each with CONFIG WARNING; a page of more than 16 rows is a fault (an item brought whole is one reading of
log 8). -/
def Obligations.TableItemsJudged : Prop :=
  ∀ s : State, s.part.loader.phase = .items → s.part.loader.buffer = [] →
    s.part.loader.counts.instruments = 0 → s.part.loader.counts.layouts = 0 →
    (∀ n fl g : Byte, 0 < s.part.loader.counts.zones →
      (∀ h : n.toNat < 16, ⟨n.toNat, h⟩ ∉ s.part.loader.zonesGiven →
        let p := s.part.afterItem .zones [n, fl, g] (decide (16 ≤ g.toNat ∧ g.toNat ≤ 254))
        exec (.configItemRead [n, fl, g]) s = .next (s.withPart { p with
          loader := { p.loader with zonesGiven := ⟨n.toNat, h⟩ :: s.part.loader.zonesGiven }
          board := { s.part.board with
            zones := s.part.board.zones.set n.toNat
              { fixed := fl.getLsbD 0, held := false, refreshOwed := false
                group := if g.toNat ≤ 15 then some g.toNat else none } h } })) ∧
      (16 ≤ n.toNat ∨ (∃ h : n.toNat < 16, ⟨n.toNat, h⟩ ∈ s.part.loader.zonesGiven) →
        exec (.configItemRead [n, fl, g]) s = .next (s.withPart (s.part.afterItem .zones [n, fl, g] true)))) ∧
    (s.part.loader.counts.zones = 0 → ∀ (sym : Symbol) (l z panel cell : Byte), 0 < s.part.loader.counts.positions →
      let bytes := sym.bytes ++ [l, z, panel, cell]
      let taken := fun (record : Option Nat) (h : z.toNat < 16) =>
        exec (.configItemRead bytes) s = .next (s.withPart { s.part.afterItem .positions bytes false with
          board := { s.part.board with positions := s.part.board.positions ++
            [{ record := record, layout := l.toNat, zone := ⟨z.toNat, h⟩, panel := panel.toNat
               firstCell := cell.toNat, flash := false }] } })
      let dropped := exec (.configItemRead bytes) s =
        .next (s.withPart (s.part.afterItem .positions bytes true))
      (s.part.board.layout l.toNat = none → dropped) ∧
      ∀ lay, s.part.board.layout l.toNat = some lay →
        (16 ≤ z.toNat ∨ 128 ≤ panel.toNat ∨ 80 < cell.toNat + lay.width → dropped) ∧
        ((∃ fs, lay = .fields fs) → s.part.lookup sym = none → dropped) ∧
        ∀ h : z.toNat < 16, panel.toNat ≤ 127 → cell.toNat + lay.width ≤ 80 →
          (∀ text, lay = .legend text → taken none h) ∧
          ∀ fs i, lay = .fields fs → s.part.lookup sym = some i → taken (some i) h) ∧
    (s.part.loader.counts.zones = 0 → s.part.loader.counts.positions = 0 → 0 < s.part.loader.counts.pages →
      (∀ (n : Byte) (syms : List Symbol), syms.length ≤ 16 →
        let bytes := [n, BitVec.ofNat 8 syms.length] ++ syms.flatMap Symbol.bytes
        (1 ≤ n.toNat → n.toNat ≤ 32 → (∀ pg ∈ s.part.pages, pg.number ≠ n.toNat) →
          exec (.configItemRead bytes) s = .next (s.withPart
            { s.part.afterItem .pages bytes (syms.any fun x => (s.part.lookup x).isNone) with
              pages := s.part.pages ++ [⟨n.toNat, syms.map s.part.lookup⟩] })) ∧
        (n = 0 ∨ 32 < n.toNat ∨ (∃ pg ∈ s.part.pages, pg.number = n.toNat) →
          exec (.configItemRead bytes) s = .next (s.withPart (s.part.afterItem .pages bytes true)))) ∧
      ∀ n k : Byte, 16 < k.toNat →
        exec (.configItemRead [n, k]) s = .next (s.withPart s.part.configFault)) ∧
    (s.part.loader.counts.zones = 0 → s.part.loader.counts.positions = 0 → s.part.loader.counts.pages = 0 →
      0 < s.part.loader.counts.timetable → ∀ days h m a : Byte,
      let bytes := [days, h, m, a]
      (∀ act, TimetableAction.ofCode a.toNat = some act → h.toNat < 24 ∨ h = 255 → m.toNat < 60 ∨ m = 255 →
        exec (.configItemRead bytes) s = .next (s.withPart { s.part.afterItem .timetable bytes false with
          clock := { s.part.clock with timetable := s.part.clock.timetable ++
            [⟨days, if h = 255 then none else some h.toNat, if m = 255 then none else some m.toNat, act⟩] } })) ∧
      (a = 0 ∨ 5 < a.toNat ∨ (24 ≤ h.toNat ∧ h ≠ 255) ∨ (60 ≤ m.toNat ∧ m ≠ 255) →
        exec (.configItemRead bytes) s = .next (s.withPart (s.part.afterItem .timetable bytes true))))

/-! ### The Floor Line (Section 4) -/

/-- R63, R65, R179: every frame that a station can form is accepted with its origin and its body as they were sent. -/
def Obligations.FrameRoundTrip : Prop :=
  ∀ origin : Nat, 1 ≤ origin → origin ≤ 62 →
    (∀ c : SaleContents, c.revision < 65536 → c.tradeTime < 16777216 → c.price < 16777216 → c.volume < 16777216 →
      readFrame (writeFrame origin (.sale c)) = some (origin, .sale c)) ∧
    (∀ c : QuoteContents, c.revision < 65536 →
      c.presence.getLsbD 0 = c.bid.isSome → c.presence.getLsbD 1 = c.ask.isSome →
      (∀ x ∈ c.bid, x.price < 16777216 ∧ x.size < 65536) → (∀ x ∈ c.ask, x.price < 16777216 ∧ x.size < 65536) →
      readFrame (writeFrame origin (.quote c)) = some (origin, .quote c)) ∧
    (∀ c : StateContents, c.revision < 65536 → c.code < 256 →
      readFrame (writeFrame origin (.state c)) = some (origin, .state c)) ∧
    (∀ (s : Symbol) (d : Day), readFrame (writeFrame origin (.recallFor s d)) = some (origin, .recallFor s d)) ∧
    (∀ c : ReplyContents, c.revision < 65536 → c.stateCode < 256 → c.tickCode < 256 → c.volume < 4294967296 →
      c.saleCount < 65536 → (∀ x ∈ c.previousClose, x < 16777216) → (∀ x ∈ c.opening, x < 16777216) →
      (∀ x ∈ c.high, x < 16777216) → (∀ x ∈ c.low, x < 16777216) → (∀ x ∈ c.last, x < 16777216) →
      (∀ x ∈ c.bid, x.price < 16777216 ∧ x.size < 65536) → (∀ x ∈ c.ask, x.price < 16777216 ∧ x.size < 65536) →
      readFrame (writeFrame origin (.reply c)) = some (origin, .reply c)) ∧
    (∀ (u : Nat) (text : List Byte), u < 256 → 1 ≤ text.length → text.length ≤ 64 →
      readFrame (writeFrame origin (.notice u text)) = some (origin, .notice u text)) ∧
    (∀ (d : Day) (ph : Nat), ph < 256 →
      readFrame (writeFrame origin (.session d ph)) = some (origin, .session d ph)) ∧
    (∀ w h m sec : Nat, w < 256 → h < 256 → m < 256 → sec < 256 →
      readFrame (writeFrame origin (.clock w h m sec)) = some (origin, .clock w h m sec)) ∧
    ∀ g a : Nat, g < 256 → a < 256 → readFrame (writeFrame origin (.hold g a)) = some (origin, .hold g a)

/-- R75 with R74: a clash on attempt 1 to 7 enters BACKOFF for ((station × n) mod 31) + 1 slot times, which is 1 to 31;
the line's activity does not touch the timer, and the station does not drive the line, so that it hears frames as at any
time; its expiry makes the attempt n + 1 and enters DEFERRING, with the gap timer
started on a quiet line. Stations 31 apart choose equal backoffs at every attempt. -/
def Obligations.BackoffFollowsClash : Prop :=
  (∀ (s : State) (x : Sending), s.part.running = true → s.part.line.current = some x → x.phase = .sending →
    x.attempt ≤ 7 →
    exec .clash s = .next (s.withPart { s.part with line := { s.part.line with
      current := some { x with phase := .backoff (s.part.settings.station * x.attempt % 31 + 1) } } })) ∧
  (∀ station n : Nat, 1 ≤ backoffSlots station n ∧ backoffSlots station n ≤ 31 ∧
    backoffSlots station n = station * n % 31 + 1 ∧ backoffSlots (station + 31) n = backoffSlots station n) ∧
  (∀ (s t : State) (bytes : List Byte) (x : Sending) (k : Nat), s.part.line.current = some x →
    x.phase = .backoff k →
    s.part.line.driverEnabled = false ∧ (exec .lineBusy s = .next t → t.part.line.current = some x) ∧
    (exec (.endOfTransmission bytes) s = .next t → t.part.line.current = some x)) ∧
  ∀ (s : State) (x : Sending) (k : Nat), s.part.running = true → s.part.line.current = some x →
    x.phase = .backoff k →
    exec .backoffExpiry s = .next (s.withPart { s.part with line := { s.part.line with
      current := some { x with attempt := x.attempt + 1, phase := .deferring }
      gapRunning := decide (s.part.line.sense = .quiet) } })

/-- R74, R168: a clash on the eighth attempt of a console SALE ends it with LINE FAIL, and nothing is handed on. R74,
R49: a RECALL sent starts the wait of the slot that awaits it. In both the transmitter becomes IDLE (the frame is named
by its age: log 11). -/
def Obligations.OutcomesReachOwners : Prop :=
  (∀ (s : State) (x : Sending) (c : SaleContents), s.part.running = true → s.part.line.current = some x →
    x.phase = .sending → x.attempt = 8 → x.frame.body = .sale c → s.part.console.port = .busy x.frame.age →
    s.part.line.queue = [] →
    exec .clash s = .next (s.withPart { s.part with
      console := { s.part.console with port := .ready, result := .lineFail }
      line := { s.part.line with current := none } })) ∧
  ∀ (s : State) (x : Sending) (i : Nat), s.part.running = true → s.part.line.current = some x →
    x.phase = .sending → x.frame.body = .recallFor i → s.part.line.queue = [] →
    exec .sendComplete s = .next (s.withPart { s.part with
      recalls := { s.part.recalls with
        slots := s.part.recalls.slots.map fun sl =>
          if sl.phase = .awaitingOutcome x.frame.age then { sl with phase := .waiting } else sl }
      line := { s.part.line with current := none } })

/-- R70: an offer joins a queue of fewer than 16 as its youngest frame. At 16 an URGENT frame displaces the youngest LOW
one, whose owner takes it back: a RECALL frees its slot and puts its record at the head of the Recall List (R49), a CLOCK
is dropped. Any other offer is refused and changes nothing. R71: an IDLE transmitter takes the oldest frame of the highest
class present, completes its origin and its body, and enters DEFERRING at attempt 1, with the gap timer started on a quiet
line (a frame's age as its name is log 11). -/
def Obligations.OffersJoinOrDisplace : Prop :=
  (∀ (p : Part) (b : TxBody), p.line.queue.length < 16 → p.line.current.isSome = true →
    p.offer b = ({ p with line := { p.line with
      queue := p.line.queue ++ [⟨p.line.nextAge, b⟩], nextAge := p.line.nextAge + 1 } }, true)) ∧
  (∀ (p : Part) (b : TxBody), 16 ≤ p.line.queue.length →
    (b.frameClass ≠ .urgent ∨ ∀ f ∈ p.line.queue, f.body.frameClass ≠ .low) → p.offer b = (p, false)) ∧
  (∀ (p : Part) (b : TxBody) (older younger : List QueuedFrame) (f : QueuedFrame), p.line.QueueLaw →
    16 ≤ p.line.queue.length → b.frameClass = .urgent → p.line.queue = older ++ f :: younger →
    f.body.frameClass = .low → (∀ g ∈ younger, g.body.frameClass ≠ .low) →
    let line := { p.line with
      queue := older ++ younger ++ [⟨p.line.nextAge, b⟩], nextAge := p.line.nextAge + 1 }
    (f.body = .clock → p.offer b = ({ p with line := line }, true)) ∧
    ∀ i, f.body = .recallFor i → (∃ sl ∈ p.recalls.slots, sl.phase = .awaitingOutcome f.age) →
      p.offer b = ({ p with
        line := line
        recalls := { p.recalls with
          slots := p.recalls.slots.filter fun sl => sl.phase != .awaitingOutcome f.age, list := i :: p.recalls.list }
        records := p.records.modify i fun r => { r with recallState := .listed } }, true)) ∧
  (∀ (p : Part) (older younger : List QueuedFrame) (f : QueuedFrame), p.line.current = none →
    (p.line.queue.map QueuedFrame.age).Nodup → p.line.queue = older ++ f :: younger →
    (∀ g ∈ older, g.body.frameClass.rank < f.body.frameClass.rank) →
    (∀ g ∈ younger, g.body.frameClass.rank ≤ f.body.frameClass.rank) →
    p.takeFrame = { p with line := { p.line with
      queue := older ++ younger
      gapRunning := decide (p.line.sense = .quiet)
      current := some ⟨f, writeFrame p.settings.station (p.completeBody f.body), 1, .deferring⟩ } }) ∧
  ∀ p : Part,
    (∀ i r d, p.records[i]? = some r → p.day = some d → p.completeBody (.recallFor i) = .recallFor r.symbol d) ∧
    (∀ w n, p.clock.time = some ⟨w, n⟩ → p.completeBody .clock = .clock w (n / 3600) (n / 60 % 60) (n % 60)) ∧
    (∀ g a, p.completeBody (.hold g a) = .hold g a) ∧ (∀ c, p.completeBody (.sale c) = .sale c) ∧
    ∀ i r d rv, p.records[i]? = some r → r.recordDay = some d → r.revision = some rv →
      ∃ c, p.completeBody (.reply i) = .reply c ∧ c.symbol = r.symbol ∧ c.day = d ∧ c.revision = rv.toNat ∧
        c.stateCode = r.shown.state.code ∧ c.tickCode = r.shown.tick.code ∧ c.displayed = { r.shown with doubtful := false }

/-- R168, R111, R112: a console HOLD whose frame is sent finishes with SENT and makes every zone of the group HELD,
and no position of the group is left in the Dirty Queue (the frame is named by its age: log 11). R111: a hold request
reaches the boards from the console's own frame when it is SENT and from a HOLD frame heard; another action code changes
nothing. R112: HOLD makes the group's zones HELD and, unless FIXED, owing a refresh, and takes their positions out of the
Dirty Queue. R113: RELEASE takes HELD off the group's zones; those that were HELD, are now unprotected and owed a refresh
owe it no more, and their positions are marked in ascending order. (The bytes that come with the end of a transmission and
the line's sense are the model's choice: log 9.) -/
def Obligations.HoldsApplied : Prop :=
  (∀ (s : State) (x : Sending) (g : Nat), s.part.running = true → s.part.line.current = some x →
    x.phase = .sending → x.frame.body = .hold g 0 → s.part.console.port = .busy x.frame.age →
    ∃ t, exec .sendComplete s = .next t ∧ t.part.console.port = .ready ∧ t.part.console.result = .sent ∧
      t.part.console.flags = s.part.console.flags ∧ t.part.quotations = s.part.quotations ∧
      t.part.ribbon = s.part.ribbon ∧ t.part.clock = s.part.clock ∧
      t.part.board.panels = s.part.board.panels ∧
      (∀ z, (t.part.board.zone z).fixed = (s.part.board.zone z).fixed ∧
        (t.part.board.zone z).held = ((s.part.board.zone z).held || (s.part.board.zone z).group == some g) ∧
        ((s.part.board.zone z).group = some g → (s.part.board.zone z).fixed = false →
          (t.part.board.zone z).refreshOwed = true)) ∧
      ∀ k z, t.part.board.zoneOf k = some z → (t.part.board.zone z).group = some g → k ∉ t.part.board.dirty) ∧
  (∀ (s : State) (x : Sending) (g : Nat), s.part.running = true → s.part.line.current = some x →
    x.phase = .sending → x.frame.body = .hold g 1 → s.part.console.port = .busy x.frame.age →
    ∃ t, exec .sendComplete s = .next t ∧ t.part.console.port = .ready ∧ t.part.console.result = .sent ∧
      t.part.console.flags = s.part.console.flags ∧ t.part.quotations = s.part.quotations ∧
      t.part.ribbon = s.part.ribbon ∧ t.part.clock = s.part.clock ∧
      (∀ z, (t.part.board.zone z).held = ((s.part.board.zone z).held && (s.part.board.zone z).group != some g)) ∧
      (s.part.board.op ≠ .idle → t.part.board = s.part.board.requestHold g 1)) ∧
  (∀ (s : State) (bytes : List Byte) (origin g a : Nat), s.part.running = true →
    s.part.line.driverEnabled = false → s.part.line.sense ≠ .busy false →
    readFrame bytes = some (origin, .hold g a) →
    ∃ t, exec (.endOfTransmission bytes) s = .next t ∧ t.part.line.sense = .quiet ∧
      t.part.quotations = s.part.quotations ∧ t.part.ribbon = s.part.ribbon ∧ t.part.clock = s.part.clock ∧
      t.part.console.port = s.part.console.port ∧ t.part.console.result = s.part.console.result ∧
      t.part.board.panels = s.part.board.panels ∧
      (∀ z, (t.part.board.zone z).held =
        (if a = 0 then (s.part.board.zone z).held || (s.part.board.zone z).group == some g
        else if a = 1 then (s.part.board.zone z).held && (s.part.board.zone z).group != some g
        else (s.part.board.zone z).held)) ∧
      (s.part.board.op ≠ .idle → t.part.board = s.part.board.requestHold g a)) ∧
  ∀ (b : Board) (g : Nat),
    (∀ a, 2 ≤ a → b.requestHold g a = b) ∧
    (let c := b.requestHold g 0
     c = { b with zones := c.zones, dirty := c.dirty } ∧
     (∀ z, c.zone z = { b.zone z with
       held := (b.zone z).held || (b.zone z).group == some g
       refreshOwed := (b.zone z).refreshOwed || ((b.zone z).group == some g && !(b.zone z).fixed) }) ∧
     c.dirty = b.dirty.filter fun k => ((b.zoneOf k).bind fun z => (b.zone z).group) != some g) ∧
    (let c := b.requestHold g 1
     let owing := (List.range b.positions.length).filter fun k =>
       match b.zoneOf k with
       | some z => (b.zone z).group == some g && (b.zone z).held && !(b.zone z).fixed && (b.zone z).refreshOwed
       | none => false
     c = { b with zones := c.zones, dirty := c.dirty } ∧
     (∀ z, c.zone z = { b.zone z with
       held := (b.zone z).held && (b.zone z).group != some g
       refreshOwed := (b.zone z).refreshOwed &&
         ((b.zone z).group != some g || !(b.zone z).held || (b.zone z).fixed) }) ∧
     c.dirty = b.dirty ++ owing.filter fun k => !b.absorbs k && !b.dirty.contains k)

/-- R64, R73, R65: a transmission begun on a quiet line makes it busy and stops a running gap timer, and on a busy
line changes nothing. The end of one that is no accepted frame, or that is not to be judged, changes nothing but the
line, which is quiet, and a deferring transmitter's gap timer, which starts (the sense and the bytes at the end are
the model's choice: log 9). On the gap timer's expiry with the line quiet a deferring transmitter begins to send; the
line is then busy with its own transmission and LEN is asserted. -/
def Obligations.LineSenseFollows : Prop :=
  (∀ (s : State) (x : Sending), s.part.running = true → s.part.line.gapRunning = true →
    s.part.line.sense = .quiet → s.part.line.current = some x → x.phase = .deferring →
    ∃ t, exec .interframeGapExpiry s = .next t ∧ t.part.line.driverEnabled = true ∧
      t = s.withPart { s.part with line := { s.part.line with
        current := some { x with phase := .sending }, gapRunning := false, sense := .busy false } }) ∧
  (∀ s : State, s.part.line.sense = .quiet →
    exec .lineBusy s = .next (s.withPart { s.part with
      line := { s.part.line with sense := .busy s.part.running, gapRunning := false } })) ∧
  (∀ (s : State) (b : Bool), s.part.line.sense = .busy b → exec .lineBusy s = .next s) ∧
  ∀ (s : State) (bytes : List Byte), s.part.line.driverEnabled = false →
    readFrame bytes = none ∨ s.part.line.sense = .busy false →
    exec (.endOfTransmission bytes) s = .next (s.withPart { s.part with line := { s.part.line with
      sense := .quiet
      gapRunning := match s.part.line.current with | some x => decide (x.phase = .deferring) | none => false } })

/-- R64, R66, R10, R11, R13 to R15: a heard SALE of the station's day, in sequence for a HEARD record, is applied to
it; doubt is left as it was; no other record's quotation changes (the order inside the event is log 4; the bytes that
come with the end, and an end on a line sensed quiet, are the model's choice: log 9). -/
def Obligations.HeardSaleApplied : Prop :=
  ∀ (s : State) (bytes : List Byte) (origin : Nat) (c : SaleContents) (i : Nat) (r : Record) (rv : Revision),
    s.part.running = true → s.part.line.driverEnabled = false → s.part.line.sense ≠ .busy false →
    readFrame bytes = some (origin, .sale c) → c.wellFormed = true → s.part.lookup c.symbol = some i →
    s.part.records[i]? = some r → r.heard = true → r.revision = some rv →
    BitVec.ofNat 12 c.revision = rv + 1 → s.part.day = some c.day →
    ∃ t, exec (.endOfTransmission bytes) s = .next t ∧ t.part.line.sense = .quiet ∧
      t.part.clock = s.part.clock ∧ t.part.line.listenOnly = (s.part.line.listenOnly || origin == s.part.settings.station) ∧
      t.part.console.port = s.part.console.port ∧ t.part.console.result = s.part.console.result ∧
      t.part.console.mask = s.part.console.mask ∧ t.part.console.readBuffer = s.part.console.readBuffer ∧
      t.part.board.panels = s.part.board.panels ∧
      t.part.quotations = s.part.quotations.set i
        { r with recallState := .none, revision := some (rv + 1), recordDay := some c.day,
                 shown := r.shown.sale c.price c.volume }

/-! ### Records (Section 1) -/

/-- R8, R9, R10, R12 (Tables 1-3, 1-4): malformed contents of any kind make the record that they name doubtful, apply no
field and set no day. Well-formed SALE, QUOTE or STATE contents of another day than the station's change no record. Those
of its day are applied to a NEVER HEARD record, which is then doubtful. For a HEARD record of revision r: distance 0 or
2,048 and above changes no record; 1 is applied with doubt left as it was; 2 to 2,047 is applied and the record is
doubtful. A record made doubtful is LISTED at the tail of the Recall List unless its recall is pending already. -/
def Obligations.RevisionGateDecides : Prop :=
  ∀ (p : Part) (c : Contents) (i : Nat) (r : Record), p.lookup c.symbol = some i → p.records[i]? = some r →
    let pend := r.recallState = .listed ∨ r.recallState = .outstanding
    let doubted := fun (x : Record) =>
      { x with
        shown := { x.shown with doubtful := true }
        recallState := if r.recallState = .outstanding then .outstanding else .listed }
    let madeDoubtful := fun (x : Record) =>
      (p.judge c).records = p.records.set i (doubted x) ∧
      (pend → (p.judge c).recalls.list = p.recalls.list) ∧
      (¬ pend → (p.judge c).recalls.list = p.recalls.list ++ [i])
    let applied := { r with
      heard := true, revision := some c.revision, recordDay := some c.day, shown := c.apply r.shown }
    (c.wellFormed = false → madeDoubtful r ∧ (p.judge c).clock = p.clock) ∧
    (c.wellFormed = true → (∀ x, c ≠ .reply x) → ∀ day, p.day = some day →
      (c.day ≠ day → (p.judge c).records = p.records) ∧
      (c.day = day → r.heard = false → madeDoubtful applied) ∧
      ∀ rv, r.heard = true → r.revision = some rv →
        let d := (c.revision - rv).toNat
        (d = 0 ∨ 2048 ≤ d → (p.judge c).records = p.records) ∧
        (c.day = day → d = 1 → (p.judge c).records = p.records.set i applied) ∧
        (c.day = day → 2 ≤ d → d ≤ 2047 → madeDoubtful applied))

/-- R13 to R15: the volume, the sale count, the prices, the tick and the state after a SALE. R16: a QUOTE replaces both
sides and nothing else. R17: a STATE changes the state alone, by Table 1-6. -/
def Obligations.ReportsChangeRecord : Prop :=
  (∀ (d : Displayed) (price volume : Nat),
    let e := d.sale price volume
    e.volume = min (d.volume + volume) 999999999 ∧ e.saleCount = min (d.saleCount + 1) 65535 ∧
    (e.saturated = true ↔ d.saturated = true ∨ 999999999 ≤ d.volume + volume) ∧
    e.previousClose = d.previousClose ∧ e.bid = d.bid ∧ e.ask = d.ask ∧ e.doubtful = d.doubtful ∧
    (volume < 100 → e.opening = d.opening ∧ e.high = d.high ∧ e.low = d.low ∧ e.last = d.last ∧ e.tick = d.tick ∧
      e.state = d.state) ∧
    (100 ≤ volume → e.last = some price ∧
      (d.last = none → e.opening = some price ∧ e.high = some price ∧ e.low = some price) ∧
      (∀ l h lo, d.last = some l → d.high = some h → d.low = some lo →
        e.opening = d.opening ∧ e.high = some (max h price) ∧ e.low = some (min lo price)) ∧
      (d.state = .notOpened ∨ d.state = .delayed → e.state = .trading) ∧
      (d.state = .trading ∨ d.state = .halted ∨ d.state = .closed → e.state = d.state) ∧
      (d.last = none → d.previousClose = none → e.tick = .none) ∧
      ∀ ref, (d.last = some ref ∨ d.last = none ∧ d.previousClose = some ref) →
        (ref < price → e.tick = .up) ∧ (price < ref → e.tick = .down) ∧
        (price = ref → (d.tick = .up ∨ d.tick = .zeroUp → e.tick = .zeroUp) ∧
          (d.tick = .down ∨ d.tick = .zeroDown → e.tick = .zeroDown) ∧ (d.tick = .none → e.tick = .none)))) ∧
  ∀ d : Displayed,
    (∀ x : QuoteContents, (Contents.quote x).apply d = { d with bid := x.bid, ask := x.ask }) ∧
    ∀ x : StateContents, 1 ≤ x.code → x.code ≤ 3 → ∃ st, (Contents.state x).apply d = { d with state := st } ∧
      (x.code = 1 → st = .halted) ∧ (x.code = 2 → 0 < d.saleCount → st = .trading) ∧
      (x.code = 2 → d.saleCount = 0 → st = .notOpened) ∧
      (x.code = 3 → d.state = .notOpened → st = .delayed) ∧ (x.code = 3 → d.state ≠ .notOpened → st = d.state)

/-- R7: the judgement of contents reaches the record of their symbol and no other. -/
def Obligations.OtherRecordsUntouched : Prop :=
  ∀ (p : Part) (c : Contents) (j : Nat), p.lookup c.symbol ≠ some j → (p.judge c).records[j]? = p.records[j]?

/-- R18, R19: an accepted REPLY of the station's day replaces the record's daily fields, clears doubt, makes the recall
state NONE, takes the record off the Recall List and frees its slot. -/
def Obligations.ReplyConfirmsRecord : Prop :=
  ∀ (p : Part) (c : ReplyContents) (i : Nat) (r : Record), c.wellFormed = true → p.lookup c.symbol = some i →
    p.records[i]? = some r → p.day = some c.day →
    (r.heard = false ∨ ∃ rv, r.revision = some rv ∧ (BitVec.ofNat 12 c.revision - rv).toNat ≤ 2047) →
    ∃ r', (p.judge (.reply c)).records = p.records.set i r' ∧ r'.heard = true ∧
      r'.revision = some (BitVec.ofNat 12 c.revision) ∧ r'.recordDay = some c.day ∧ r'.recallState = .none ∧
      r'.lastWhole = r.lastWhole ∧ r'.symbol = r.symbol ∧ r'.home = r.home ∧ r'.priceStep = r.priceStep ∧
      r'.tapeExclude = r.tapeExclude ∧ r'.shown.doubtful = false ∧ r'.shown.state.code = c.stateCode ∧
      r'.shown.tick.code = c.tickCode ∧ r'.shown.previousClose = c.previousClose ∧ r'.shown.opening = c.opening ∧
      r'.shown.high = c.high ∧ r'.shown.low = c.low ∧ r'.shown.last = c.last ∧ r'.shown.volume = c.volume ∧
      r'.shown.saturated = c.saturated ∧ r'.shown.saleCount = c.saleCount ∧ r'.shown.bid = c.bid ∧
      r'.shown.ask = c.ask ∧
      (r.recallState = .listed → i ∉ (p.judge (.reply c)).recalls.list) ∧
      (r.recallState = .outstanding → ∀ sl ∈ (p.judge (.reply c)).recalls.slots, sl.record ≠ i)

/-! ### Session Clock and Timetable (Section 5) -/

/-- R79: the clock advances by one second at each expiry, midnight giving the next weekday, whatever the Timetable then
does; away from a minute boundary nothing else changes, and an UNSET clock does not advance. R81: a CLOCK frame in range
sets the clock to the time that it carries, with no day, phase or minute boundary; one out of range is ignored and raises
no flag (its bytes and the line's sense at the end are the model's choice: log 9). -/
def Obligations.SecondAdvances : Prop :=
  (∀ (s : State) (w n : Nat), s.part.running = true → s.part.clock.time = some ⟨w, n⟩ →
    ∃ t, exec .secondTimerExpiry s = .next t ∧
      t.part.clock.time = some (if n < 86399 then ⟨w, n + 1⟩ else ⟨if w < 7 then w + 1 else 1, 0⟩) ∧
      (n < 86399 → (n + 1) % 60 ≠ 0 →
        t = s.withPart { s.part with clock := { s.part.clock with time := some ⟨w, n + 1⟩ } })) ∧
  (∀ s : State, s.part.clock.time = none → exec .secondTimerExpiry s = .next s) ∧
  (∀ (p : Part) (w h m n : Nat),
    ((1 ≤ w ∧ w ≤ 7) ∧ h ≤ 23 ∧ m ≤ 59 ∧ n ≤ 59 → p.clockHeard w h m n =
      { p with clock := { p.clock with time := some ⟨w, h * 3600 + m * 60 + n⟩ } }) ∧
    (w = 0 ∨ 7 < w ∨ 23 < h ∨ 59 < m ∨ 59 < n → p.clockHeard w h m n = p)) ∧
  ∀ (s : State) (bytes : List Byte) (origin w h m n : Nat), s.part.running = true →
    s.part.line.driverEnabled = false → s.part.line.sense ≠ .busy false →
    readFrame bytes = some (origin, .clock w h m n) →
    ∃ t, exec (.endOfTransmission bytes) s = .next t ∧ t.part.line.sense = .quiet ∧
      t.part.quotations = s.part.quotations ∧ t.part.ribbon = s.part.ribbon ∧
      t.part.console.port = s.part.console.port ∧ t.part.console.result = s.part.console.result ∧
      t.part.board.panels = s.part.board.panels ∧ t.part.clock = (s.part.clockHeard w h m n).clock

/-- R85 to R88, R21, R22: at a minute boundary an OPEN entry opens the next day of a CLOSED station and rolls every record
over, and a CLOSE entry closes an OPEN one and makes every record CLOSED. The SESSION frame joins a queue with room. R89:
TAPE TIME makes a routine entry with the boundary's hour and minute in the slot at the head of the free list; REPAINT
starts a repaint at position 0, or is held for after a blank; SEND CLOCK offers a CLOCK frame on a clock source that is not
listen-only, and does nothing on another station. -/
def Obligations.TimetableActionsAct : Prop :=
  ∀ (s : State) (w h m : Nat) (day : Day) (e : TimetableEntry), s.part.running = true → h < 24 → m < 60 →
    1 ≤ w → w ≤ 7 → 0 < h * 3600 + m * 60 → s.part.clock.time = some ⟨w, h * 3600 + m * 60 - 1⟩ →
    s.part.clock.timetable = [e] → e.weekdays.getLsbD (w - 1) = true → e.hour = some h ∨ e.hour = none →
    e.minute = some m ∨ e.minute = none →
    (e.action = .openSession → s.part.clock.session = some ⟨day, .closed⟩ →
      ∃ t, exec .secondTimerExpiry s = .next t ∧ t.part.clock.session = some ⟨day + 1, .opened⟩ ∧
        t.part.ribbon = s.part.ribbon ∧ t.part.console = s.part.console ∧
        t.part.board.panels = s.part.board.panels ∧ t.part.line.listenOnly = s.part.line.listenOnly ∧
        t.part.quotations = s.part.quotations.map (fun r =>
          { r with
            recordDay := if r.heard then some (day + 1) else r.recordDay
            lastWhole := none
            shown := { r.shown with
              previousClose := (match r.shown.last with | some x => some x | none => r.shown.previousClose)
              opening := none, high := none, low := none, last := none, bid := none, ask := none, volume := 0
              saturated := false, saleCount := 0, tick := .none, state := .notOpened } }) ∧
        (s.part.line.listenOnly = false → s.part.line.queue.length < 16 → s.part.line.current.isSome = true →
          ⟨s.part.line.nextAge, .session (day + 1) 0⟩ ∈ t.part.line.queue)) ∧
    (e.action = .closeSession → s.part.clock.session = some ⟨day, .opened⟩ →
      ∃ t, exec .secondTimerExpiry s = .next t ∧ t.part.clock.session = some ⟨day, .closed⟩ ∧
        t.part.ribbon = s.part.ribbon ∧ t.part.console = s.part.console ∧
        t.part.board.panels = s.part.board.panels ∧ t.part.line.listenOnly = s.part.line.listenOnly ∧
        t.part.quotations = s.part.quotations.map (fun r => { r with shown := { r.shown with state := .closed } }) ∧
        (s.part.line.listenOnly = false → s.part.line.queue.length < 16 → s.part.line.current.isSome = true →
          ⟨s.part.line.nextAge, .session day 1⟩ ∈ t.part.line.queue)) ∧
    (e.action = .tapeTime → s.part.formatter.forming.isSome = true → s.part.ribbon.crawl ≠ .idle →
      ∃ t, exec .secondTimerExpiry s = .next t ∧ t.part.quotations = s.part.quotations ∧
        t.part.clock.session = s.part.clock.session ∧ t.part.board.panels = s.part.board.panels ∧
        t.part.ribbon.urgent = s.part.ribbon.urgent ∧ t.part.ribbon.crawl = s.part.ribbon.crawl ∧
        (s.part.ribbon.free = [] → t.part.ribbon.free = [] ∧ t.part.ribbon.routine = s.part.ribbon.routine) ∧
        ∀ slot rest, s.part.ribbon.free = slot :: rest → t.part.ribbon.free = rest ∧
          t.part.ribbon.routine = s.part.ribbon.routine ++ [⟨slot, .waiting, .tapeTime h m, none⟩]) ∧
    (e.action = .repaint → s.part.board.op ≠ .idle →
      ∃ t, exec .secondTimerExpiry s = .next t ∧ t.part.quotations = s.part.quotations ∧
        t.part.clock.session = s.part.clock.session ∧ t.part.ribbon = s.part.ribbon ∧
        t.part.console = s.part.console ∧
        (s.part.board.blankPending = true ∨ (∃ k, s.part.board.op = .blanking k) →
          t.part.board = { s.part.board with repaintHeld := true }) ∧
        (s.part.board.blankPending = false → (∀ k, s.part.board.op ≠ .blanking k) → s.part.board.positions ≠ [] →
          t.part.board = { s.part.board with
            cursor := some 0
            nextSource := if s.part.board.cursor = none then .queue else s.part.board.nextSource })) ∧
    (e.action = .sendClock → s.part.recalls.list = [] →
      ∃ t, exec .secondTimerExpiry s = .next t ∧ t.part.quotations = s.part.quotations ∧
        t.part.clock.session = s.part.clock.session ∧ t.part.ribbon = s.part.ribbon ∧
        t.part.console = s.part.console ∧ t.part.board.panels = s.part.board.panels ∧
        (s.part.settings.clockSource = false ∨ s.part.line.listenOnly = true → t.part.line = s.part.line) ∧
        (s.part.settings.clockSource = true → s.part.line.listenOnly = false → s.part.line.queue.length < 16 →
          s.part.line.current.isSome = true →
          t.part.line = { s.part.line with
            queue := s.part.line.queue ++ [⟨s.part.line.nextAge, .clock⟩]
            nextAge := s.part.line.nextAge + 1 }))

/-- R90, R84 (Table 5-2): a heard SESSION frame gives its day and phase to a station whose day is unset, with no rollover;
closes an OPEN station of its day, blanking the boards when so configured; opens the next day of a CLOSED one; and
otherwise, for a phase code that is neither OPEN nor CLOSE included, changes nothing. Contents judged on a station whose
day is unset give it their day with phase OPEN. -/
def Obligations.SessionHeardActs : Prop :=
  (∀ (p : Part) (f : Day) (phase : Nat),
    (p.clock.session = none →
      (phase = 0 → p.sessionHeard f phase = { p with clock := { p.clock with session := some ⟨f, .opened⟩ } }) ∧
      (phase = 1 → p.sessionHeard f phase = { p with clock := { p.clock with session := some ⟨f, .closed⟩ } }) ∧
      (2 ≤ phase → p.sessionHeard f phase = p)) ∧
    (∀ d, p.clock.session = some ⟨d, .opened⟩ →
      (phase = 1 → f = d →
        (p.sessionHeard f phase).clock.session = some ⟨d, .closed⟩ ∧
        (p.sessionHeard f phase).records = p.records.map (fun r => { r with shown := { r.shown with state := .closed } }) ∧
        (p.sessionHeard f phase).line = p.line ∧ (p.sessionHeard f phase).ribbon = p.ribbon ∧
        (p.settings.blankAtClose = true → p.board.blankUnderWay = false →
          (p.sessionHeard f phase).board.blankPending = true)) ∧
      (phase ≠ 1 ∨ f ≠ d → p.sessionHeard f phase = p)) ∧
    ∀ d, p.clock.session = some ⟨d, .closed⟩ →
      (phase = 0 → f = d + 1 →
        (p.sessionHeard f phase).clock.session = some ⟨d + 1, .opened⟩ ∧
        (p.sessionHeard f phase).records = p.records.map (Record.openRollover (d + 1)) ∧
        (p.sessionHeard f phase).line = p.line ∧ (p.sessionHeard f phase).ribbon = p.ribbon) ∧
      (phase ≠ 0 ∨ f ≠ d + 1 → p.sessionHeard f phase = p)) ∧
  ∀ (p : Part) (c : Contents), c.wellFormed = true → p.clock.session = none →
    (p.judge c).clock = { p.clock with session := some ⟨c.day, .opened⟩ }

/-! ### Recall Unit (Section 3) -/

/-- R47, R48: at a pace expiry the head of the Recall List fills a slot as OUTSTANDING, a RECALL joins the queue, and the
pace timer starts. R50: a wait expiry by send count and listen-only: a re-send, UNANSWERED with its event flag after the
third, or the tail of the list on a listen-only station. R56: at a holdoff expiry a record that is HEARD, not doubtful
and of the station's day is answered with a REPLY frame, and any other entry is removed with nothing queued. (The
timer named by its record and the frame by its age are the model's choice: logs 11 and 17.) -/
def Obligations.RecallTimersAct : Prop :=
  (∀ (s : State) (i : Nat) (rest : List Nat), s.part.running = true → s.part.recalls.paceRunning = true →
    s.part.recalls.list = i :: rest → s.part.recalls.slots.length < 4 → s.part.clock.session.isSome = true →
    s.part.line.listenOnly = false → s.part.line.queue.length < 16 → s.part.line.current.isSome = true →
    exec .paceExpiry s = .next (s.withPart { s.part with
      recalls := { s.part.recalls with
        list := rest
        slots := s.part.recalls.slots ++ [⟨i, 1, .awaitingOutcome s.part.line.nextAge⟩]
        paceRunning := true }
      records := s.part.records.modify i fun r => { r with recallState := .outstanding }
      line := { s.part.line with
        queue := s.part.line.queue ++ [⟨s.part.line.nextAge, .recallFor i⟩], nextAge := s.part.line.nextAge + 1 } })) ∧
  (∀ (s : State) (i : Nat) (sl : Slot), s.part.running = true →
    s.part.recalls.slots.find? (fun x => x.record == i) = some sl → sl.phase = .waiting →
    (s.part.line.listenOnly = true →
      exec (.waitExpiry i) s = .next (s.withPart { s.part with
        recalls := { s.part.recalls with
          slots := s.part.recalls.slots.filter (fun x => x.record != i), list := s.part.recalls.list ++ [i] }
        records := s.part.records.modify i fun r => { r with recallState := .listed } })) ∧
    (s.part.line.listenOnly = false → sl.sendCount = 3 → s.part.recalls.list = [] →
      exec (.waitExpiry i) s = .next (s.withPart { s.part with
        recalls := { s.part.recalls with slots := s.part.recalls.slots.filter (fun x => x.record != i) }
        records := s.part.records.modify i fun r => { r with recallState := .unanswered }
        console := { s.part.console with flags := s.part.console.flags ||| 8 } })) ∧
    (s.part.line.listenOnly = false → sl.sendCount < 3 → s.part.line.queue.length < 16 →
      s.part.line.current.isSome = true →
      exec (.waitExpiry i) s = .next (s.withPart { s.part with
        recalls := { s.part.recalls with
          paceRunning := true
          slots := s.part.recalls.slots.map fun x =>
            if x.record = i then
              { x with sendCount := x.sendCount + 1, phase := .awaitingOutcome s.part.line.nextAge }
            else x }
        line := { s.part.line with
          queue := s.part.line.queue ++ [⟨s.part.line.nextAge, .recallFor i⟩]
          nextAge := s.part.line.nextAge + 1 } }))) ∧
  ∀ (s : State) (i ms : Nat) (e : ReplyEntry) (r : Record), s.part.running = true →
    s.part.recalls.replies.find? (fun x => x.record == i) = some e → e.phase = .holding ms →
    s.part.records[i]? = some r →
    (r.heard = true → r.shown.doubtful = false → (∃ d, r.recordDay = some d ∧ s.part.day = some d) →
      s.part.line.listenOnly = false → s.part.line.queue.length < 16 → s.part.line.current.isSome = true →
      exec (.holdoffExpiry i) s = .next (s.withPart { s.part with
        recalls := { s.part.recalls with
          replies := s.part.recalls.replies.map fun x =>
            if x.record = i then { x with phase := .queued s.part.line.nextAge } else x }
        line := { s.part.line with
          queue := s.part.line.queue ++ [⟨s.part.line.nextAge, .reply i⟩]
          nextAge := s.part.line.nextAge + 1 } })) ∧
    (r.heard = false ∨ r.shown.doubtful = true ∨ r.recordDay = none ∨ r.recordDay ≠ s.part.day ∨
        s.part.line.listenOnly = true →
      exec (.holdoffExpiry i) s = .next (s.withPart { s.part with
        recalls := { s.part.recalls with
          replies := s.part.recalls.replies.filter (fun x => x.record != i) } }))

/-- R52 to R54: a heard RECALL of a symbol that is not held, or of another day, changes nothing. Of a LISTED record with a
free slot it suppresses the station's own recall, which then waits; of a record whose RECALL is still queued it
withdraws that frame. Of a record that the station may answer from, with a place on the Reply List, it starts the
answer's holdoff of 2 ms times the station number (the slots in order of filling are log 17). -/
def Obligations.RecallHeardActs : Prop :=
  ∀ (p : Part) (x : Symbol) (d : Day),
    (p.lookup x = none ∨ p.day ≠ some d → p.recallHeard x d = p) ∧
    ∀ (i : Nat) (r : Record), p.lookup x = some i → p.records[i]? = some r → p.day = some d →
      (r.shown.doubtful = true → r.recallState = .listed →
        (p.recalls.slots.length < 4 → p.recallHeard x d = { p with
          recalls := { p.recalls with
            list := p.recalls.list.filter (· != i), slots := p.recalls.slots ++ [⟨i, 1, .waiting⟩] }
          records := p.records.modify i fun r => { r with recallState := .outstanding } }) ∧
        (4 ≤ p.recalls.slots.length → p.recallHeard x d = p)) ∧
      (∀ sl age, r.shown.doubtful = true → r.recallState = .outstanding →
        p.recalls.slots.find? (fun y => y.record == i) = some sl → sl.phase = .awaitingOutcome age →
        ((∃ f ∈ p.line.queue, f.age = age) → p.recallHeard x d = { p with
          recalls := { p.recalls with
            slots := p.recalls.slots.map fun y => if y.record = i then { y with phase := .waiting } else y }
          line := { p.line with queue := p.line.queue.filter fun f => f.age != age } }) ∧
        ((∀ f ∈ p.line.queue, f.age ≠ age) → p.recallHeard x d = p)) ∧
      (r.recallState = .none → r.heard = true → r.shown.doubtful = false → r.recordDay = some d →
        p.line.listenOnly = false → p.settings.answerEnabled = true → 1 ≤ p.settings.station →
        r.home ≠ some p.settings.station → (∀ e ∈ p.recalls.replies, e.record ≠ i) →
        (p.recalls.replies.length < 8 → p.recallHeard x d = { p with
          recalls := { p.recalls with
            replies := p.recalls.replies ++ [⟨i, .holding (2 * p.settings.station)⟩] } }) ∧
        (8 ≤ p.recalls.replies.length → p.recallHeard x d = p))

/-! ### Formation completions (Section 2) -/

/-- R25, R26: a request made while the Formatter forms waits in its requester's place. At a completion the Formatter takes
the ribbon's request, else the board's, else the first terminal's after the last one served, each out of its place,
with its values read at once (R27); with none waiting it is IDLE. R126: at the start of its formation an unbound OMITTED
notice takes the omitted count as its number and the count becomes 0, and the text is that of the entry so bound; any
other entry stands as it was. -/
def Obligations.FormatterServesInOrder : Prop :=
  (∀ p : Part, p.formatter.forming.isSome = true →
    (∀ slot, p.request (.ribbon slot) = { p with formatter := { p.formatter with ribbonWait := some slot } }) ∧
    (∀ k, p.request (.board k) = { p with formatter := { p.formatter with boardWait := some k } }) ∧
    ∀ t job, p.request (.terminal t job) = { p with formatter := { p.formatter with
      termWait := p.formatter.termWait.set t.val (some job) t.isLt } }) ∧
  (∀ p : Part,
    let f := p.formatter
    (∀ slot, f.ribbonWait = some slot →
      p.endFormation = { p with
        ribbon := p.ribbon.bindOmitted slot
        formatter := { f with
          forming := some (.ribbon slot, ({ p with ribbon := p.ribbon.bindOmitted slot } : Part).ribbonText slot)
          ribbonWait := none } }) ∧
    (f.ribbonWait = none → ∀ k, f.boardWait = some k →
      p.endFormation = { p with formatter := { f with
        forming := some (.board k, p.boardText k), boardWait := none } }) ∧
    (f.ribbonWait = none → f.boardWait = none →
      (∀ (d : Fin 8) (job : TermJob), f.termWait.get (f.lastServed + 1 + d) = some job →
        (∀ e : Fin 8, e < d → f.termWait.get (f.lastServed + 1 + e) = none) →
        p.endFormation = { p with formatter := { f with
          forming := some (.terminal (f.lastServed + 1 + d) job, p.terminalText (f.lastServed + 1 + d) job)
          termWait := f.termWait.set (f.lastServed + 1 + d).val none (f.lastServed + 1 + d).isLt
          lastServed := f.lastServed + 1 + d } }) ∧
      ((∀ t, f.termWait.get t = none) → p.endFormation = { p with formatter := { f with forming := none } }))) ∧
  ∀ (r : Ribbon) (slot : Nat) (e : Entry), r.entry slot = some e →
    (e.content = .omitted none →
      (r.bindOmitted slot).entry slot = some { e with content := .omitted (some r.omitted) } ∧
      (r.bindOmitted slot).omitted = 0 ∧ (r.bindOmitted slot).free = r.free ∧
      ((r.bindOmitted slot).urgent ++ (r.bindOmitted slot).routine).map Entry.slot =
        (r.urgent ++ r.routine).map Entry.slot ∧
      ∀ other, other ≠ slot → (r.bindOmitted slot).entry other = r.entry other) ∧
    (e.content ≠ .omitted none → r.bindOmitted slot = r)

/-- R98: at a board formation completion the cells of an unprotected position are written, and those of a HELD
zone's position are withheld, the zone owing a refresh unless it is FIXED (how R98 and R105 meet on a FIXED zone is
log 12, and no FIXED zone is stated on here). -/
def Obligations.BoardCellsWritten : Prop :=
  ∀ (s : State) (k : Nat) (src : Source) (cs : List PanelCell) (q : Position), s.part.running = true →
    s.part.formatter.forming = some (.board k, .cells cs) → s.part.board.op = .forming k src →
    s.part.board.positions[k]? = some q → s.part.board.blankPending = false →
    ∃ t, exec .boardFormationCompletion s = .next t ∧ t.part.records = s.part.records ∧
      t.part.line = s.part.line ∧ t.part.console = s.part.console ∧ t.part.terminals = s.part.terminals ∧
      t.part.recalls = s.part.recalls ∧ t.part.clock = s.part.clock ∧
      t.part.board.panels = s.part.board.panels ∧
      ((s.part.board.zone q.zone).isProtected = false →
        t.part.board = { s.part.board with op := .writing k src cs }) ∧
      ((s.part.board.zone q.zone).held = true →
        (∀ j src' cs', t.part.board.op ≠ .writing j src' cs') ∧
        ((s.part.board.zone q.zone).fixed = false → (t.part.board.zone q.zone).refreshOwed = true))

/-- R132, R42: at a ribbon formation completion the text is stored in the entry the request named, an entry ON RIBBON
begins to print, and the record's last printed whole is written. -/
def Obligations.RibbonTextStored : Prop :=
  ∀ (s : State) (slot i whole : Nat) (text : List Glyph) (e : Entry) (r : Record), s.part.running = true →
    s.part.formatter.forming = some (.ribbon slot, .print text (some (i, whole))) →
    s.part.ribbon.entry slot = some e → e.status = .onRibbon → s.part.ribbon.crawl = .awaitingText →
    s.part.records[i]? = some r →
    ∃ t, exec .ribbonFormationCompletion s = .next t ∧ t.part.ribbon.crawl = .printing 0 ∧
      (t.part.ribbon.entry slot).map Entry.text = some (some text) ∧
      t.part.records = s.part.records.set i { r with lastWhole := some whole } ∧ t.part.board = s.part.board ∧
      t.part.line = s.part.line ∧ t.part.terminals = s.part.terminals ∧ t.part.console = s.part.console ∧
      t.part.recalls = s.part.recalls ∧ t.part.clock = s.part.clock

/-- R149, R151: at a terminal's formation completion the row's run begins: plain from a drawing, and in a live
rewrite with the fields lit before and the step's new ones, the highlight timer started when there are new fields (a
run as one string is the model's choice: log 18). -/
def Obligations.TerminalRunBegins : Prop :=
  ∀ (s : State) (k : TerminalId) (texts : List (List Glyph)), s.part.running = true →
    (∀ i, s.part.formatter.forming = some (.terminal k (.draw i), .row texts) →
      (s.part.terminal k).step = some (.request (.draw i)) →
      ∃ t, exec .terminalFormationCompletion s = .next t ∧ t.part.records = s.part.records ∧
        t.part.board = s.part.board ∧ t.part.line = s.part.line ∧ t.part.recalls = s.part.recalls ∧
        t.part.clock = s.part.clock ∧ t.part.console = s.part.console ∧
        t.part.terminals = s.part.terminals.set k.val { s.part.terminal k with
          step := some (.run (.draw i) (rowRun i RowFields.empty texts)) } k.isLt) ∧
    (∀ i new r, s.part.formatter.forming = some (.terminal k (.live i new), .row texts) →
      (s.part.terminal k).step = some (.request (.live i new)) → (s.part.terminal k).rows[i]? = some r →
      ∃ t, exec .terminalFormationCompletion s = .next t ∧ t.part.records = s.part.records ∧
        t.part.board = s.part.board ∧ t.part.line = s.part.line ∧ t.part.recalls = s.part.recalls ∧
        t.part.clock = s.part.clock ∧ t.part.console = s.part.console ∧
        t.part.terminals = s.part.terminals.set k.val { s.part.terminal k with
          rows := (s.part.terminal k).rows.set i
            { r with lit := r.lit.union new, highlight := r.highlight || decide (new ≠ RowFields.empty) }
          step := some (.run (.live i new) (rowRun i (r.lit.union new) texts)) } k.isLt)

/-! ### Boards (Section 6) -/

/-- R96: at the completion of a panel write of position k its cells stand on the panel from its first cell on and
every other cell of the boards shows what it showed; no other block changes but the Formatter (the panels' cells as
state are the model's choice: log 13). -/
def Obligations.PanelWriteLatches : Prop :=
  ∀ (s : State) (k : Nat) (src : Source) (cs : List PanelCell) (q : Position),
    s.part.board.op = .writing k src cs → s.part.board.positions[k]? = some q →
    ∃ t, exec .panelWriteCompletion s = .next t ∧
      (∀ panel cell, t.part.board.shownCell panel cell =
        if panelKey q.panel q.firstCell ≤ panelKey panel cell ∧
            panelKey panel cell < panelKey q.panel q.firstCell + cs.length then
          cs[panelKey panel cell - panelKey q.panel q.firstCell]?
        else s.part.board.shownCell panel cell) ∧
      t.part.records = s.part.records ∧ t.part.line = s.part.line ∧ t.part.ribbon = s.part.ribbon ∧
      t.part.terminals = s.part.terminals ∧ t.part.console = s.part.console ∧ t.part.recalls = s.part.recalls ∧
      t.part.clock = s.part.clock ∧
      (s.part.board.blankPending = false → s.part.board.cursor = none → s.part.board.dirty = [] →
        t.part.board.op = .idle)

/-- R103, R99: at a flash expiry the flash state is STOPPED and the position is marked: a protected zone owes a refresh
unless FIXED, a running repaint absorbs it, and otherwise it stands in the Dirty Queue once. -/
def Obligations.FlashExpiryMarks : Prop :=
  ∀ (s : State) (k : Nat) (q : Position), s.part.running = true → s.part.board.positions[k]? = some q →
    q.flash = true → s.part.board.op ≠ .idle →
    ∃ t, exec (.flashTimerExpiry k) s = .next t ∧ t.part.records = s.part.records ∧ t.part.line = s.part.line ∧
      t.part.ribbon = s.part.ribbon ∧ t.part.terminals = s.part.terminals ∧ t.part.board.op = s.part.board.op ∧
      t.part.console = s.part.console ∧ t.part.recalls = s.part.recalls ∧ t.part.clock = s.part.clock ∧
      t.part.board.panels = s.part.board.panels ∧
      t.part.board.positions = s.part.board.positions.set k { q with flash := false } ∧
      ((s.part.board.zone q.zone).isProtected = true → t.part.board.dirty = s.part.board.dirty ∧
        ((s.part.board.zone q.zone).fixed = false → (t.part.board.zone q.zone).refreshOwed = true)) ∧
      ((s.part.board.zone q.zone).isProtected = false →
        t.part.board.zones = s.part.board.zones ∧
        ((∃ c, s.part.board.cursor = some c ∧ c ≤ k) ∨ k ∈ s.part.board.dirty →
          t.part.board.dirty = s.part.board.dirty) ∧
        ((∀ c, s.part.board.cursor = some c → k < c) → k ∉ s.part.board.dirty →
          t.part.board.dirty = s.part.board.dirty ++ [k]))

/-! ### Ribbon (Section 7) -/

/-- R129, R130, R136: an advance expiry starts the timer again at the smaller of base + 2 × level and 20 characters per
second; with the head ready it sends the character at the place, or suspends a routine entry; with the head not ready
the crawl stays as it was (the level read before the boundary and no character at a head that is not ready are log
21; the first separator blank at the boundary of the suspension, where R137 closes otherwise, is log 19). R135: the second separator blank of the last entry ends it: its slot returns to the head of the free list and the
crawl is IDLE. -/
def Obligations.AdvanceMovesCrawl : Prop :=
  (∀ (s : State) (v place : Nat) (b : Band) (e : Entry) (text : List Glyph), s.part.running = true →
    s.part.ribbon.advance = some v → s.part.ribbon.crawl = .printing place →
    s.part.ribbon.onRibbon = some (b, e) → e.text = some text → place < text.length →
    exec (.advanceExpiry false) s = .next (s.withPart { s.part with ribbon := { s.part.ribbon with
      advance := some (min (s.part.settings.baseSpeed + 2 * s.part.ribbon.level) 20), strobed := none } }) ∧
    (s.part.ribbon.suspensionPending = false →
      exec (.advanceExpiry true) s = .next (s.withPart { s.part with ribbon := { s.part.ribbon with
        advance := some (min (s.part.settings.baseSpeed + 2 * s.part.ribbon.level) 20)
        strobed := text[place]?
        crawl := if place + 1 < text.length then .printing (place + 1) else .separating 0 false } })) ∧
    (s.part.ribbon.suspensionPending = true →
      ∃ t, exec (.advanceExpiry true) s = .next t ∧ t.part.ribbon.crawl = .separating 1 true ∧
        t.part.ribbon.strobed = some (.ch 32) ∧ t.part.ribbon.suspensionPending = false ∧
        t.part.records = s.part.records ∧ t.part.board = s.part.board ∧ t.part.line = s.part.line ∧
        t.part.terminals = s.part.terminals ∧ t.part.console = s.part.console ∧
        t.part.ribbon.free = s.part.ribbon.free ∧ (t.part.ribbon.entry e.slot).map Entry.status = some .suspended)) ∧
  ∀ (s : State) (v : Nat) (e : Entry), s.part.running = true → s.part.ribbon.advance = some v →
    s.part.ribbon.suspensionPending = false → s.part.ribbon.crawl = .separating 1 false →
    s.part.ribbon.urgent = [] → s.part.ribbon.routine = [e] → e.status = .onRibbon →
    exec (.advanceExpiry true) s = .next (s.withPart { s.part with ribbon := { s.part.ribbon with
      advance := some (min (s.part.settings.baseSpeed + 2 * s.part.ribbon.level) 20)
      free := e.slot :: s.part.ribbon.free, routine := [], crawl := .idle, strobed := some (.ch 32) } })

/-- R121, R124, R125: while the free count is above 32 a candidate of a symbol with no WAITING entry becomes a SALE entry
in the slot at the head of the free list; at the reserve it is counted as omitted and makes no SALE entry. -/
def Obligations.CandidateTakesSlot : Prop :=
  ∀ (env : TapeEnv) (c : SaleContents) (t : Tape), t.rib.youngestWaiting c.symbol = none → t.rib.crawl ≠ .idle →
    (∀ slot rest, t.rib.free = slot :: rest → 32 ≤ rest.length →
      (t.candidate env c).rib.free = rest ∧ (t.candidate env c).rib.urgent = t.rib.urgent ∧
      (t.candidate env c).rib.omitted = t.rib.omitted ∧
      (t.candidate env c).rib.routine = t.rib.routine ++
        [⟨slot, .waiting, .sale ⟨c.symbol, c.price, c.volume, c.tradeTime, 0⟩, none⟩] ∧
      (t.candidate env c).flags = if rest.length = 32 then t.flags ||| 1 else t.flags) ∧
    (t.rib.free.length ≤ 32 →
      (t.candidate env c).rib.saleEntries = t.rib.saleEntries ∧
      (t.candidate env c).rib.omitted = min (t.rib.omitted + 1) 9999)

/-- R123, R124: the youngest WAITING SALE entry of a candidate's symbol takes the candidate in its place at level 3 with an
equal price, or at the reserve at any price, while its merged count is below 255: the candidate's price, the summed volume
up to 9,999,999, the older trade time and one merge more, with no slot taken and nothing else changed. Otherwise a
candidate above the reserve takes a slot of its own, and one at it is counted as omitted. -/
def Obligations.MergesFold : Prop :=
  ∀ (env : TapeEnv) (c : SaleContents) (t : Tape) (before later : List Entry) (e : Entry) (x : SaleEntry),
    t.rib.PoolLaw → t.rib.routine = before ++ e :: later → e.status = .waiting → e.content = .sale x →
    x.symbol = c.symbol →
    (∀ y ∈ later, y.status = .waiting → ∀ z, y.content = .sale z → z.symbol ≠ c.symbol) →
    let folds := x.merged < 255 ∧ (t.rib.level = 3 ∧ x.price = c.price ∨ t.rib.free.length ≤ 32)
    let y : SaleEntry := { x with
      price := c.price, volume := min (x.volume + c.volume) 9999999
      tradeTime := olderTrade x.tradeTime c.tradeTime, merged := x.merged + 1 }
    (folds → t.candidate env c =
      { t with rib := { t.rib with routine := before ++ { e with content := .sale y } :: later } }) ∧
    (¬ folds → t.rib.crawl ≠ .idle → ∀ slot rest, t.rib.free = slot :: rest → 32 ≤ rest.length →
      (t.candidate env c).rib.free = rest ∧ (t.candidate env c).rib.urgent = t.rib.urgent ∧
      (t.candidate env c).rib.omitted = t.rib.omitted ∧
      (t.candidate env c).rib.routine = t.rib.routine ++
        [⟨slot, .waiting, .sale ⟨c.symbol, c.price, c.volume, c.tradeTime, 0⟩, none⟩]) ∧
    (¬ folds → t.rib.free.length ≤ 32 →
      (t.candidate env c).rib.saleEntries = t.rib.saleEntries ∧
      (t.candidate env c).rib.omitted = min (t.rib.omitted + 1) 9999)

/-- R138: the taking of a WAITING SALE entry counts the sample countdown down; at its end the countdown starts again and,
with the clock SET, the tape lag takes the entry's lag. A TEXT entry taken, and a SUSPENDED one taken again, move neither.
R139: a lag at or above the threshold that was not the last announced makes an urgent LATE entry and raises TAPE LATE; the
first below it makes a routine CURRENT entry; without a free slot nothing is made, announced or raised. -/
def Obligations.LagAnnounced : Prop :=
  (∀ (env : TapeEnv) (trade : Nat) (t : Tape),
    (1 < t.rib.countdown →
      t.sample env trade = { t with rib := { t.rib with countdown := t.rib.countdown - 1 } }) ∧
    (t.rib.countdown ≤ 1 → env.now = none →
      t.sample env trade = { t with rib := { t.rib with countdown := env.samplePeriod } }) ∧
    ∀ now, t.rib.countdown ≤ 1 → env.now = some now →
      let m := lagMinutes now trade
      let measured : Ribbon := { t.rib with countdown := env.samplePeriod, tapeLag := m }
      (t.rib.free = [] ∨ (env.lateThreshold ≤ m ∧ t.rib.announced = some m) ∨
          (m < env.lateThreshold ∧ t.rib.announced = none) →
        t.sample env trade = { t with rib := measured }) ∧
      ∀ slot rest, t.rib.free = slot :: rest →
        (env.lateThreshold ≤ m → t.rib.announced ≠ some m →
          (t.sample env trade).rib.urgent = t.rib.urgent ++ [⟨slot, .waiting, .late m, none⟩] ∧
          (t.sample env trade).rib.routine = t.rib.routine ∧ (t.sample env trade).rib.free = rest ∧
          (t.sample env trade).rib.announced = some m ∧ (t.sample env trade).rib.tapeLag = m ∧
          (t.sample env trade).rib.countdown = env.samplePeriod ∧
          (t.sample env trade).flags = (if rest.length = 32 then t.flags ||| 1 else t.flags) ||| 2) ∧
        (m < env.lateThreshold → t.rib.announced.isSome = true →
          (t.sample env trade).rib.routine = t.rib.routine ++ [⟨slot, .waiting, .current, none⟩] ∧
          (t.sample env trade).rib.urgent = t.rib.urgent ∧ (t.sample env trade).rib.free = rest ∧
          (t.sample env trade).rib.announced = none ∧ (t.sample env trade).rib.tapeLag = m ∧
          (t.sample env trade).rib.countdown = env.samplePeriod ∧
          (t.sample env trade).flags = if rest.length = 32 then t.flags ||| 1 else t.flags)) ∧
  ∀ (env : TapeEnv) (t : Tape) (band : Band) (e : Entry), t.rib.head = some (band, e) →
    ((∀ x, e.content ≠ .sale x) ∨ e.status = .suspended →
      (t.takeHead env).rib.countdown = t.rib.countdown ∧ (t.takeHead env).rib.tapeLag = t.rib.tapeLag ∧
      (t.takeHead env).rib.announced = t.rib.announced ∧ (t.takeHead env).flags = t.flags) ∧
    (∀ x, e.content = .sale x → e.status = .waiting →
      (1 < t.rib.countdown → (t.takeHead env).rib.countdown = t.rib.countdown - 1 ∧
        (t.takeHead env).rib.tapeLag = t.rib.tapeLag) ∧
      (t.rib.countdown ≤ 1 → (t.takeHead env).rib.countdown = env.samplePeriod ∧
        ∀ now, env.now = some now → (t.takeHead env).rib.tapeLag = lagMinutes now x.tradeTime))

/-- R127, R153, R136: a NOTICE takes the slot at the head of the free list at the tail of its band, an URGENT one asking
for the suspension of the routine entry that is being crawled, and becomes the message of every terminal in use; an
urgency that is neither ROUTINE nor URGENT reaches neither. -/
def Obligations.NoticeReachesDisplays : Prop :=
  ∀ (p : Part) (u slot : Nat) (text : List Byte) (rest : List Nat), p.formatter.forming.isSome = true →
    p.ribbon.crawl ≠ .idle → p.ribbon.free = slot :: rest →
    let q := p.noticeArrives u text
    (2 ≤ u → q = p) ∧
    (u ≤ 1 → q.records = p.records ∧ q.board = p.board ∧ q.line = p.line ∧ q.recalls = p.recalls ∧
      q.ribbon.free = rest ∧ q.ribbon.crawl = p.ribbon.crawl ∧
      (u = 0 → q.ribbon.urgent = p.ribbon.urgent ∧
        q.ribbon.routine = p.ribbon.routine ++ [⟨slot, .waiting, .notice text, none⟩] ∧
        q.ribbon.suspensionPending = p.ribbon.suspensionPending) ∧
      (u = 1 → q.ribbon.urgent = p.ribbon.urgent ++ [⟨slot, .waiting, .notice text, none⟩] ∧
        q.ribbon.routine = p.ribbon.routine ∧
        q.ribbon.suspensionPending = (p.ribbon.suspensionPending || p.ribbon.suspendsFor)) ∧
      ∀ k, ((p.terminal k).state = .unused → q.terminal k = p.terminal k) ∧
        ((p.terminal k).state ≠ .unused →
          q.terminal k = { p.terminal k with message := some ⟨text, u == 1⟩, messageOwed := true }))

/-! ### Terminals (Section 8) -/

/-- R146, R149: when the run of a drawing row leaves the line the cursor moves on and the next row is requested; a LIVE
terminal with nothing to do becomes free (a run as one string is the model's choice: log 18). R152: a highlight expiry
empties the row's lit fields and puts the row in the pending set; its changed fields stand. -/
def Obligations.RunsAndHighlightsEnd : Prop :=
  (∀ (s : State) (k : TerminalId) (chars : List OutChar), s.part.running = true →
    (s.part.terminal k).redrawOwed = false → (s.part.terminal k).commandOwed = false →
    (s.part.terminal k).messageOwed = false → (s.part.terminal k).detailOwed = none →
    (∀ i, (s.part.terminal k).step = some (.run (.draw i) chars) → (s.part.terminal k).state = .drawing →
      i + 1 < (s.part.terminal k).rows.length →
      ∃ t, exec (.outputRunCompletion k) s = .next t ∧ t.part.records = s.part.records ∧
        t.part.board = s.part.board ∧ t.part.line = s.part.line ∧ t.part.ribbon = s.part.ribbon ∧
        t.part.recalls = s.part.recalls ∧ t.part.clock = s.part.clock ∧ t.part.console = s.part.console ∧
        t.part.terminals = s.part.terminals.set k.val { s.part.terminal k with
          drawCursor := i + 2, step := some (.request (.draw (i + 1))) } k.isLt) ∧
    ((s.part.terminal k).step = some (.run .command chars) → (s.part.terminal k).state = .live →
      (∀ r ∈ (s.part.terminal k).rows, r.pending = false) →
      exec (.outputRunCompletion k) s = .next (s.withPart { s.part with
        terminals := s.part.terminals.set k.val { s.part.terminal k with step := none } k.isLt }))) ∧
  ∀ (s : State) (k : TerminalId) (i : Nat) (r : Row), s.part.running = true →
    (s.part.terminal k).rows[i]? = some r → r.highlight = true → (s.part.terminal k).step.isSome = true →
    exec (.highlightExpiry k (i + 1)) s = .next (s.withPart { s.part with
      terminals := s.part.terminals.set k.val { s.part.terminal k with
        rows := (s.part.terminal k).rows.set i
          { r with lit := RowFields.empty, highlight := false, pending := true } } k.isLt })

/-- R155: a letter, digit, space, plus, minus or question mark joins a keyboard line of fewer than 16 characters, a small
letter as its capital, and overflows a full one with a bell; a backspace takes the last character away; a character with
a framing fault and one at an UNUSED terminal are ignored. -/
def Obligations.KeysEditLine : Prop :=
  ∀ (s : State) (k : TerminalId) (b : Byte), s.part.running = true →
    exec (.keyCharacter k b true) s = .next s ∧
    ((s.part.terminal k).state = .unused → exec (.keyCharacter k b false) s = .next s) ∧
    ((s.part.terminal k).state ≠ .unused → (s.part.terminal k).step.isSome = true →
      (s.part.terminal k).shows = .keys → (s.part.terminal k).overflow = false →
      ((65 ≤ b.toNat ∧ b.toNat ≤ 90) ∨ (97 ≤ b.toNat ∧ b.toNat ≤ 122) ∨ (48 ≤ b.toNat ∧ b.toNat ≤ 57) ∨
          b = 32 ∨ b = 43 ∨ b = 45 ∨ b = 63 →
        exec (.keyCharacter k b false) s = .next (s.withPart { s.part with
          terminals := s.part.terminals.set k.val (if (s.part.terminal k).keyLine.length < 16 then
              { s.part.terminal k with
                keyLine := (s.part.terminal k).keyLine ++ [if 97 ≤ b.toNat then b - 32 else b], commandOwed := true }
            else { s.part.terminal k with overflow := true, bellOwed := true, commandOwed := true }) k.isLt })) ∧
      ∀ line c, (s.part.terminal k).keyLine = line ++ [c] →
        exec (.backspace k) s = .next (s.withPart { s.part with
          terminals := s.part.terminals.set k.val
            { s.part.terminal k with keyLine := line, commandOwed := true } k.isLt }))

/-- R156, R157: a return on "P", any spaces and one or two digits giving n of 1 to 32 selects page n; on "W" the
watch list; on an overflowed line nothing is performed. R158: +SYM and -SYM edit the terminal's watch list in the order
of conditions there; a refusal shows its word with a bell; an accepted edit asks for a redraw when the selection is
WATCH. R154: ?SYM of a held symbol owes its detail. A line of one character that is neither "W" nor a space is unknown
and sounds the bell. The line is emptied in each case (every return row is judged by the keyboard line: log 7). -/
def Obligations.ReturnActs : Prop :=
  (∀ (s : State) (k : TerminalId), s.part.running = true → (s.part.terminal k).state ≠ .unused →
    (s.part.terminal k).step.isSome = true →
    (∀ n spaces, 1 ≤ n → n ≤ 32 → (s.part.terminal k).overflow = false →
      (s.part.terminal k).keyLine = 80 :: (List.replicate spaces 32 ++
        [BitVec.ofNat 8 (48 + n / 10), BitVec.ofNat 8 (48 + n % 10)]) ∨
      (n ≤ 9 ∧ (s.part.terminal k).keyLine = 80 :: (List.replicate spaces 32 ++ [BitVec.ofNat 8 (48 + n)])) →
      exec (.selectPage k) s = .next (s.withPart { s.part with
        terminals := s.part.terminals.set k.val { s.part.terminal k with
          selection := .page n, redrawOwed := true, keyLine := [], commandOwed := true } k.isLt })) ∧
    ((s.part.terminal k).overflow = false → (s.part.terminal k).keyLine = [87] →
      exec (.selectWatch k) s = .next (s.withPart { s.part with
        terminals := s.part.terminals.set k.val { s.part.terminal k with
          selection := .watch, redrawOwed := true, keyLine := [], commandOwed := true } k.isLt })) ∧
    ((s.part.terminal k).overflow = true →
      exec (.unknownCommand k) s = .next (s.withPart { s.part with
        terminals := s.part.terminals.set k.val { s.part.terminal k with
          overflow := false, keyLine := [], commandOwed := true } k.isLt }))) ∧
  (∀ (s : State) (k : TerminalId) (letters : List Byte), s.part.running = true →
    (s.part.terminal k).state ≠ .unused → (s.part.terminal k).step.isSome = true →
    (s.part.terminal k).overflow = false → 1 ≤ letters.length → letters.length ≤ 5 →
    (∀ b ∈ letters, 65 ≤ b.toNat ∧ b.toNat ≤ 90) →
    let x := s.part.terminal k
    let sym := Symbol.ofList letters
    let done := fun (y : Terminal) => Host.Outcome.next (φ := Fault) (ρ := Refusal) (s.withPart { s.part with
      terminals := s.part.terminals.set k.val { y with keyLine := [], commandOwed := true } k.isLt })
    (x.keyLine = 43 :: letters →
      exec (.addToWatch k) s =
        if s.part.lookup sym = none then done { x with shows := .unknown, bellOwed := true }
        else if sym ∈ x.watch then done { x with shows := .already, bellOwed := true }
        else if 16 ≤ x.watch.length then done { x with shows := .full, bellOwed := true }
        else done { x with
          watch := x.watch ++ [sym], redrawOwed := x.redrawOwed || decide (x.selection = .watch) }) ∧
    (x.keyLine = 45 :: letters →
      exec (.removeFromWatch k) s =
        if sym ∈ x.watch then done { x with
          watch := x.watch.filter (· != sym), redrawOwed := x.redrawOwed || decide (x.selection = .watch) }
        else done { x with shows := .notListed, bellOwed := true })) ∧
  ∀ (s : State) (k : TerminalId), s.part.running = true → (s.part.terminal k).state ≠ .unused →
    (s.part.terminal k).step.isSome = true → (s.part.terminal k).overflow = false →
    (∀ letters : List Byte, 1 ≤ letters.length → letters.length ≤ 5 →
      (∀ b ∈ letters, 65 ≤ b.toNat ∧ b.toNat ≤ 90) → (s.part.terminal k).keyLine = 63 :: letters →
      exec (.showDetail k) s = .next (s.withPart { s.part with
        terminals := s.part.terminals.set k.val
          (if s.part.lookup (Symbol.ofList letters) = none then
            { s.part.terminal k with keyLine := [], commandOwed := true, shows := .unknown, bellOwed := true }
          else
            { s.part.terminal k with
              keyLine := [], commandOwed := true, detailOwed := some (Symbol.ofList letters) }) k.isLt })) ∧
    ∀ b : Byte, b ≠ 32 → b ≠ 87 → (s.part.terminal k).keyLine = [b] →
      exec (.unknownCommand k) s = .next (s.withPart { s.part with
        terminals := s.part.terminals.set k.val { s.part.terminal k with
          keyLine := [], commandOwed := true, bellOwed := true } k.isLt })

/-- R155 to R158: whatever a dealer types at one terminal changes no other terminal, no record, board, frame, ribbon,
clock or console state: only the terminal and the Formatter's service of it. -/
def Obligations.KeysReachOneTerminal : Prop :=
  ∀ (s t : State) (k : TerminalId) (c : Instr), Instr.keyOf k c = true → exec c s = .next t →
    (∀ j, j ≠ k → t.part.terminal j = s.part.terminal j) ∧ t.part.records = s.part.records ∧
    t.part.board = s.part.board ∧ t.part.ribbon = s.part.ribbon ∧ t.part.line = s.part.line ∧
    t.part.recalls = s.part.recalls ∧ t.part.clock = s.part.clock ∧ t.part.console = s.part.console ∧
    t.part.configured = s.part.configured ∧ t.pending = s.pending

/-! ### Console (Section 9) -/

/-- R164: a command that carries a body, taken in READY, puts the port in LOADING; the first DATA write gives a declared
length that Table 10-4 allows, or ends the request with BAD ENTRY; later writes join the buffer until the last. R169, R104,
R108: in READY, CLEAR STATUS sets the result to none and ABORT CLEAR changes nothing; REPAINT starts a repaint at position
0 and BLANK becomes pending behind work in flight, ending a repaint, each with DONE; while a blank is pending or under way
a REPAINT is held and a BLANK is served by it. -/
def Obligations.ReadyCommandsTaken : Prop :=
  (∀ s : State, s.part.console.port = .ready → ∀ e ∈ bodyCommands,
    exec e.1 s = .next (s.withPart { s.part with
      console := { s.part.console with port := .loading e.2 none [] } })) ∧
  (∀ (s : State) (c : ConsoleCommand) (buf : List Byte) (v : Byte), s.part.console.port = .loading c none buf →
    exec (.dataWrite v) s = .next (s.withPart { s.part with console :=
      if (c = .enterSale ∧ v = 11) ∨ (c = .enterQuote ∧ (v = 6 ∨ v = 11 ∨ v = 16)) ∨ (c = .enterState ∧ v = 6) ∨
          (c = .enterNotice ∧ 2 ≤ v.toNat ∧ v.toNat ≤ 65) ∨ ((c = .hold ∨ c = .release) ∧ v = 1) ∨
          (c = .readRecord ∧ v = 5) ∨ (c = .setClock ∧ (v = 4 ∨ v = 5)) then
        { s.part.console with port := .loading c (some v.toNat) [] }
      else { s.part.console with port := .ready, result := .badEntry } })) ∧
  (∀ (s : State) (c : ConsoleCommand) (n : Nat) (buf : List Byte) (v : Byte),
    s.part.console.port = .loading c (some n) buf → buf.length + 1 < n →
    exec (.dataWrite v) s = .next (s.withPart { s.part with
      console := { s.part.console with port := .loading c (some n) (buf ++ [v]) } })) ∧
  ∀ s : State, s.part.console.port = .ready →
    exec .clearStatus s = .next (s.withPart { s.part with console := { s.part.console with result := .none } }) ∧
    exec .abortClear s = .next s ∧
    (s.part.board.op ≠ .idle → (∀ k, s.part.board.op ≠ .blanking k) → s.part.board.blankPending = false →
      (s.part.board.positions ≠ [] →
        exec .repaint s = .next (s.withPart { s.part with
          console := { s.part.console with result := .done }
          board := { s.part.board with
            cursor := some 0
            nextSource := if s.part.board.cursor = none then .queue else s.part.board.nextSource } })) ∧
      exec .blank s = .next (s.withPart { s.part with
        console := { s.part.console with result := .done }
        board := { s.part.board with
          blankPending := true, repaintHeld := s.part.board.repaintHeld || s.part.board.cursor.isSome
          cursor := none } })) ∧
    (s.part.board.op ≠ .idle → s.part.board.blankPending = true ∨ (∃ k, s.part.board.op = .blanking k) →
      exec .repaint s = .next (s.withPart { s.part with
        console := { s.part.console with result := .done }
        board := { s.part.board with repaintHeld := true } }) ∧
      exec .blank s = .next (s.withPart { s.part with console := { s.part.console with result := .done } }))

/-- R162: a COMMAND write in READY is taken: those that carry a body begin an entry, and the others leave the port READY.
It aborts an entry in LOADING; is ignored with COMMAND IGNORED in BUSY, but for CLEAR STATUS and WARM RESTART; and changes
nothing in ABORTED, but for ABORT CLEAR, and in CONFIG FAULT. A code that names no command gives COMMAND IGNORED in READY
and BUSY. A DATA write in LOADING is taken, and outside it changes nothing. -/
def Obligations.CommandsByStatus : Prop :=
  ∀ s : State,
    (s.part.console.port = .ready →
      (∀ e ∈ bodyCommands, exec e.1 s = .next (s.withPart { s.part with
        console := { s.part.console with port := .loading e.2 none [] } })) ∧
      ∀ w ∈ [Instr.clearStatus, .abortClear, .repaint, .blank, .warmRestart],
        ∃ t, exec w s = .next t ∧ t.part.console.port = .ready ∧
          (w = .clearStatus ∨ w = .warmRestart → t.part.console.result = .none) ∧
          (w = .repaint ∨ w = .blank → t.part.console.result = .done)) ∧
    (∀ age, s.part.console.port = .busy age →
      ∃ t, exec .warmRestart s = .next t ∧ t.part.console.port = .ready ∧ t.part.console.result = .none) ∧
    (∀ c n buf v, s.part.console.port = .loading c (some n) buf → buf.length + 1 < n →
      exec (.dataWrite v) s = .next (s.withPart { s.part with
        console := { s.part.console with port := .loading c (some n) (buf ++ [v]) } })) ∧
    (∀ c n buf, s.part.console.port = .loading c n buf → ∀ w ∈ commandWrites, exec w s =
      .next (s.withPart { s.part with console := { s.part.console with port := .aborted, result := .none } })) ∧
    (∀ age, s.part.console.port = .busy age → ∀ w ∈ commandWrites, w ≠ .clearStatus → w ≠ .warmRestart → exec w s =
      .next (s.withPart { s.part with console := { s.part.console with result := .commandIgnored } })) ∧
    (∀ age, s.part.console.port = .busy age → exec .clearStatus s =
      .next (s.withPart { s.part with console := { s.part.console with result := .none } })) ∧
    (s.part.console.port = .aborted → ∀ w ∈ commandWrites, w ≠ .abortClear → exec w s = .next s) ∧
    (s.part.console.port = .aborted → exec .abortClear s =
      .next (s.withPart { s.part with console := { s.part.console with port := .ready, result := .none } })) ∧
    (s.part.console.port = .configFault ∨ s.part.console.port = .readingImage →
      ∀ w ∈ commandWrites, exec w s = .next s) ∧
    (∀ code : Byte, code = 0 ∨ 13 < code.toNat →
      ((s.part.console.port = .ready ∨ ∃ age, s.part.console.port = .busy age) → exec (.unknownCommandCode code) s =
        .next (s.withPart { s.part with console := { s.part.console with result := .commandIgnored } })) ∧
      (s.part.console.port = .aborted ∨ s.part.console.port = .configFault →
        exec (.unknownCommandCode code) s = .next s) ∧
      (∀ c n buf, s.part.console.port = .loading c n buf → exec (.unknownCommandCode code) s =
        .next (s.withPart { s.part with console := { s.part.console with port := .aborted, result := .none } }))) ∧
    ∀ v : Byte, (∀ c n buf, s.part.console.port ≠ .loading c n buf) → exec (.dataWrite v) s = .next s

/-- R173, R3, R92, R78, R62, R160: a WARM RESTART keeps every field of every record but the recall states, the clock, the
day, the configuration, the event flags, the mask, listen-only, the frame being sent, and each terminal's selection,
watch list and message; it empties the Reply List and the read buffer and makes the port READY with no result. It empties
the Transmit Queue and puts the outstanding recalls back at the head of the Recall List, oldest slot first, LISTED; with
the day set and the station not listen-only, the head of that list is then queued with a fresh count, its RECALL the one
frame offered (the frame is named by its age: log 11). -/
def Obligations.WarmRestartKeeps : Prop :=
  ∀ s : State, s.part.console.port = .ready ∨ (∃ age, s.part.console.port = .busy age) →
    let back := s.part.recalls.slots.map Slot.record ++ s.part.recalls.list
    ∃ t, exec .warmRestart s = .next t ∧ t.part.console.port = .ready ∧ t.part.console.result = .none ∧
      t.part.console.readBuffer = none ∧ t.part.console.mask = s.part.console.mask ∧
      t.part.console.flags &&& s.part.console.flags = s.part.console.flags ∧
      t.part.quotations = s.part.quotations ∧ t.part.clock = s.part.clock ∧
      t.part.configured = s.part.configured ∧ t.part.line.listenOnly = s.part.line.listenOnly ∧
      t.part.line.sense = s.part.line.sense ∧
      (∀ x, s.part.line.current = some x → t.part.line.current = some x) ∧
      t.part.recalls.replies = [] ∧ t.part.board.panels = s.part.board.panels ∧
      t.part.board.blankPending = false ∧ t.part.board.repaintHeld = false ∧
      (∀ z, (t.part.board.zone z).held = (s.part.board.zone z).held) ∧
      ((s.part.clock.session = none ∨ s.part.line.listenOnly = true ∨ back = []) →
        t.part.recalls = { list := back, slots := [], replies := [], paceRunning := false } ∧
        t.part.line = { s.part.line with queue := [] }) ∧
      (∀ i rest, s.part.clock.session.isSome = true → s.part.line.listenOnly = false → back = i :: rest →
        t.part.recalls =
          { list := rest, slots := [⟨i, 1, .awaitingOutcome s.part.line.nextAge⟩], replies := []
            paceRunning := true } ∧
        (s.part.line.current.isSome = true → t.part.line.queue = [⟨s.part.line.nextAge, .recallFor i⟩]) ∧
        (s.part.line.current = none → t.part.line.queue = [] ∧
          (t.part.line.current.map Sending.frame) = some ⟨s.part.line.nextAge, .recallFor i⟩)) ∧
      (∀ i ∈ s.part.recalls.slots.map Slot.record, ∀ r, t.part.records[i]? = some r →
        r.recallState = .listed ∨ r.recallState = .outstanding ∧ back.head? = some i) ∧
      ∀ k, (t.part.terminal k).selection = (s.part.terminal k).selection ∧
        (t.part.terminal k).watch = (s.part.terminal k).watch ∧
        (t.part.terminal k).message = (s.part.terminal k).message

/-- R143: at a WARM RESTART the entries that were ON RIBBON or SUSPENDED stand WAITING at the head of their bands, the free
list and the order of the others are kept but for the one announcement that the sampling of the entry taken anew may make
(R139), and the crawl takes the head. R117: the Dirty Queue is emptied, flash states are STOPPED, HELD and hold groups are
kept, and a repaint begins: at once, or after a panel write in flight, a write of spaces among them. -/
def Obligations.WarmRestartBegins : Prop :=
  ∀ s : State, s.part.console.port = .ready ∨ (∃ age, s.part.console.port = .busy age) →
    let urgent := restartOrder s.part.ribbon.urgent
    let routine := restartOrder s.part.ribbon.routine
    ∃ t, exec .warmRestart s = .next t ∧
      (∃ x y, t.part.ribbon.urgent.map Entry.slot = urgent ++ x ∧ t.part.ribbon.routine.map Entry.slot = routine ++ y ∧
        x ++ y ++ t.part.ribbon.free = s.part.ribbon.free ∧ (x ++ y).length ≤ 1 ∧
        (s.part.clock.time = none → x = [] ∧ y = []) ∧ (x = [] → t.part.ribbon.suspensionPending = false)) ∧
      (∀ e ∈ t.part.ribbon.urgent ++ t.part.ribbon.routine, e.status ≠ .suspended) ∧
      t.part.ribbon.crawl = (if urgent ++ routine = [] then .idle else .awaitingText) ∧
      (t.part.ribbon.onRibbon.map fun be => be.2.slot) = (urgent ++ routine).head? ∧
      t.part.ribbon.advance = s.part.ribbon.advance ∧
      t.part.board.dirty = [] ∧ t.part.board.positions = s.part.board.positions.map (fun q => { q with flash := false }) ∧
      (∀ z, (t.part.board.zone z).fixed = (s.part.board.zone z).fixed ∧
        (t.part.board.zone z).group = (s.part.board.zone z).group ∧
        ((s.part.board.zone z).refreshOwed = true → (t.part.board.zone z).refreshOwed = true)) ∧
      (∀ k src cs, s.part.board.op = .writing k src cs →
        t.part.board.op = .writing k src cs ∧
        t.part.board.cursor = (if s.part.board.positions = [] then none else some 0)) ∧
      (∀ k, s.part.board.op = .blanking k → t.part.board.op = .writing k .queue (s.part.board.blankCells k) ∧
        t.part.board.cursor = (if s.part.board.positions = [] then none else some 0)) ∧
      (∀ q, s.part.board.positions[0]? = some q → (s.part.board.zone q.zone).held = false →
        (s.part.board.op = .idle ∨ ∃ k src, s.part.board.op = .forming k src) →
        t.part.board.op = .forming 0 .cursor ∧ t.part.board.cursor = some 1)

/-- R165, R167, Table 9-3: a completed ENTER SALE of a held symbol is judged in the order of the table; the first
check that fails finishes it with its result and offers nothing; otherwise a SALE with the station's day, the
record's revision plus 1 and the clock's time joins a queue with room and the port is BUSY (the frame is named by
its age: log 11). -/
def Obligations.SaleEntryJudged : Prop :=
  ∀ (s : State) (buf : List Byte) (v : Byte) (sym : Symbol) (price volume i : Nat) (r : Record),
    s.part.console.port = .loading .enterSale (some 11) buf →
    buf ++ [v] = sym.bytes ++ toBytes 3 price ++ toBytes 3 volume → price < 16777216 → volume < 16777216 →
    s.part.lookup sym = some i → s.part.records[i]? = some r → r.symbol = sym → s.part.recalls.list = [] →
    let refused := fun (e : ResultCode) => exec (.dataWrite v) s =
      .next (s.withPart { s.part with console := { s.part.console with port := .ready, result := e } })
    if s.part.line.listenOnly = true then refused .listenOnly
    else if r.home ≠ none ∧ r.home ≠ some s.part.settings.station then refused .notHome
    else if r.shown.doubtful = true then refused .notCurrent
    else if (∀ d, s.part.clock.session ≠ some ⟨d, .opened⟩) ∨ s.part.clock.time = none ∨
        r.shown.state = .halted ∨ r.shown.state = .closed then refused .notOpen
    else if 639999 < price ∨ price % (64 / r.priceStep) ≠ 0 then refused .badPrice
    else if volume = 0 ∨ 9999999 < volume then refused .badVolume
    else ∀ d now, s.part.clock.session = some ⟨d, .opened⟩ → s.part.clock.time = some now →
      s.part.line.queue.length < 16 → s.part.line.current.isSome = true →
      exec (.dataWrite v) s = .next (s.withPart { s.part with
        console := { s.part.console with port := .busy s.part.line.nextAge }
        line := { s.part.line with
          queue := s.part.line.queue ++ [⟨s.part.line.nextAge, .sale
            { symbol := sym, day := d, revision := ((r.revision.getD 0).toNat + 1) % 4096
              tradeTime := now.seconds, price := price, volume := volume }⟩]
          nextAge := s.part.line.nextAge + 1 } })

/-- R165, R167, Tables 9-3, 10-4: a completed ENTER QUOTE whose presence byte has a spare bit set or disagrees with the
length is BAD ENTRY. A completed QUOTE or STATE of a held symbol is judged in the order of the table; the first check that
fails finishes it with its result and offers nothing; otherwise the frame, with the station's day and the record's
revision plus 1, joins a queue with room and the port is BUSY, and a full queue refuses a QUOTE with QUEUE FULL. A report
on a symbol that is not held is BAD SYMBOL (the frame is named by its age: log 11). -/
def Obligations.QuoteAndStateEntriesJudged : Prop :=
  (∀ (s : State) (buf : List Byte) (v pr : Byte) (n : Nat), s.part.console.port = .loading .enterQuote (some n) buf →
    buf.length + 1 = n → (buf ++ [v])[5]? = some pr →
    (n ≠ 6 + (if pr.getLsbD 0 then 5 else 0) + (if pr.getLsbD 1 then 5 else 0) ∨ 4 ≤ pr.toNat) →
    exec (.dataWrite v) s = .next (s.finished .badEntry)) ∧
  (∀ (s : State) (buf body : List Byte) (v : Byte) (sym : Symbol) (n : Nat) (c : ConsoleCommand),
    s.part.console.port = .loading c (some n) buf → buf.length + 1 = n → buf ++ [v] = sym.bytes ++ body →
    s.part.lookup sym = none → s.part.line.listenOnly = false →
    (c = .enterSale ∧ n = 11) ∨ (c = .enterState ∧ n = 6) ∨ (c = .enterQuote ∧ n = 6 ∧ body = [0]) →
    exec (.dataWrite v) s = .next (s.finished .badSymbol)) ∧
  ∀ (s : State) (buf : List Byte) (v : Byte) (sym : Symbol) (i : Nat) (r : Record) (n : Nat),
    s.part.lookup sym = some i → s.part.records[i]? = some r → r.symbol = sym → s.part.recalls.list = [] →
    buf.length + 1 = n →
    let refused := fun (e : ResultCode) => exec (.dataWrite v) s = .next (s.finished e)
    (∀ (pr : Byte) (bid ask : Option Side), s.part.console.port = .loading .enterQuote (some n) buf →
      buf ++ [v] = sym.bytes ++ [pr] ++ writeOption writeSide bid ++ writeOption writeSide ask →
      pr.getLsbD 0 = bid.isSome → pr.getLsbD 1 = ask.isSome → pr.toNat < 4 →
      (∀ x ∈ bid, x.price < 16777216 ∧ x.size < 65536) → (∀ x ∈ ask, x.price < 16777216 ∧ x.size < 65536) →
      if s.part.line.listenOnly = true then refused .listenOnly
      else if r.home ≠ none ∧ r.home ≠ some s.part.settings.station then refused .notHome
      else if r.shown.doubtful = true then refused .notCurrent
      else if s.part.day = none then refused .notOpen
      else if ∃ x ∈ bid.toList ++ ask.toList, 639999 < x.price ∨ x.price % (64 / r.priceStep) ≠ 0 then refused .badPrice
      else if (∃ x ∈ bid.toList ++ ask.toList, x.size = 0 ∨ 9999 < x.size) ∨
          (∃ x ∈ bid.toList, ∃ y ∈ ask.toList, y.price < x.price) then refused .badQuote
      else if 16 ≤ s.part.line.queue.length then refused .queueFull
      else ∀ d, s.part.day = some d → s.part.line.current.isSome = true →
        exec (.dataWrite v) s = .next (s.offered (.quote
          { symbol := sym, day := d, revision := ((r.revision.getD 0).toNat + 1) % 4096
            presence := pr, bid := bid, ask := ask }))) ∧
    ∀ code : Byte, s.part.console.port = .loading .enterState (some 6) buf → buf ++ [v] = sym.bytes ++ [code] →
      if s.part.line.listenOnly = true then refused .listenOnly
      else if r.home ≠ none ∧ r.home ≠ some s.part.settings.station then refused .notHome
      else if r.shown.doubtful = true then refused .notCurrent
      else if s.part.day = none then refused .notOpen
      else if code = 0 ∨ 3 < code.toNat then refused .badState
      else ∀ d, s.part.day = some d → s.part.line.queue.length < 16 → s.part.line.current.isSome = true →
        exec (.dataWrite v) s = .next (s.offered (.state
          { symbol := sym, day := d, revision := ((r.revision.getD 0).toNat + 1) % 4096, code := code.toNat }))

/-- R166, R167: a completed ENTER NOTICE, HOLD or RELEASE is judged in the order of the table there, and one that passes
joins a queue with room as its frame, the port BUSY; a full queue refuses a NOTICE with QUEUE FULL. R170: READ RECORD of a
held symbol copies the record whole and sets the read pointer to the first byte, and of another symbol leaves the buffer
as it was. R80, R170: SET CLOCK in range sets the weekday and time, and a carried day sets an unset day with phase CLOSED;
out of range it finishes with BAD ENTRY and changes nothing else (a frame is named by its age: log 11). -/
def Obligations.OtherEntriesJudged : Prop :=
  (∀ (s : State) (buf : List Byte) (v u : Byte) (text : List Byte) (n : Nat), s.part.recalls.list = [] →
    s.part.console.port = .loading .enterNotice (some n) buf → buf.length + 1 = n → buf ++ [v] = u :: text →
    (1 < u.toNat ∨ text = [] ∨ 64 < text.length → exec (.dataWrite v) s = .next (s.finished .badEntry)) ∧
    (u.toNat ≤ 1 → text ≠ [] → text.length ≤ 64 →
      (s.part.line.listenOnly = true → exec (.dataWrite v) s = .next (s.finished .listenOnly)) ∧
      (s.part.line.listenOnly = false →
        (16 ≤ s.part.line.queue.length → exec (.dataWrite v) s = .next (s.finished .queueFull)) ∧
        (s.part.line.queue.length < 16 → s.part.line.current.isSome = true →
          exec (.dataWrite v) s = .next (s.offered (.notice u.toNat text)))))) ∧
  (∀ (s : State) (g : Byte), s.part.recalls.list = [] →
    (s.part.console.port = .loading .hold (some 1) [] ∨ s.part.console.port = .loading .release (some 1) [] →
      (15 < g.toNat → exec (.dataWrite g) s = .next (s.finished .badEntry)) ∧
      (g.toNat ≤ 15 → s.part.line.listenOnly = true → exec (.dataWrite g) s = .next (s.finished .listenOnly))) ∧
    (g.toNat ≤ 15 → s.part.line.listenOnly = false →
      (s.part.console.port = .loading .hold (some 1) [] →
        ((∃ z, (s.part.board.zone z).group = some g.toNat) →
          (∀ z, (s.part.board.zone z).group = some g.toNat → (s.part.board.zone z).fixed = true) →
          exec (.dataWrite g) s = .next (s.finished .zoneFixed)) ∧
        ((∀ z, (s.part.board.zone z).group ≠ some g.toNat) ∨
            (∃ z, (s.part.board.zone z).group = some g.toNat ∧ (s.part.board.zone z).fixed = false) →
          s.part.line.queue.length < 16 → s.part.line.current.isSome = true →
          exec (.dataWrite g) s = .next (s.offered (.hold g.toNat 0)))) ∧
      (s.part.console.port = .loading .release (some 1) [] →
        s.part.line.queue.length < 16 → s.part.line.current.isSome = true →
        exec (.dataWrite g) s = .next (s.offered (.hold g.toNat 1))))) ∧
  (∀ (s : State) (buf : List Byte) (v : Byte) (sym : Symbol), s.part.console.port = .loading .readRecord (some 5) buf →
    buf ++ [v] = sym.bytes →
    (s.part.lookup sym = none → exec (.dataWrite v) s = .next (s.finished .badSymbol)) ∧
    ∀ i r, s.part.lookup sym = some i → s.part.records[i]? = some r →
      exec (.dataWrite v) s = .next (s.withPart { s.part with console := { s.part.console with
        port := .ready, result := .done, readBuffer := some (recordCopy r), readPointer := 0 } })) ∧
  ∀ (s : State) (w h m sec day : Byte), s.part.recalls.list = [] →
    let inRange := (1 ≤ w.toNat ∧ w.toNat ≤ 7) ∧ h.toNat ≤ 23 ∧ m.toNat ≤ 59 ∧ sec.toNat ≤ 59
    let time : TimeOfDay := ⟨w.toNat, h.toNat * 3600 + m.toNat * 60 + sec.toNat⟩
    (s.part.console.port = .loading .setClock (some 4) [w, h, m] →
      (inRange → exec (.dataWrite sec) s = .next (s.withPart { s.part with
        clock := { s.part.clock with time := some time }
        console := { s.part.console with port := .ready, result := .done } })) ∧
      (¬ inRange → exec (.dataWrite sec) s = .next (s.withPart { s.part with
        console := { s.part.console with port := .ready, result := .badEntry } }))) ∧
    (s.part.console.port = .loading .setClock (some 5) [w, h, m, sec] → inRange →
      exec (.dataWrite day) s = .next (s.withPart { s.part with
        clock := { s.part.clock with
          time := some time
          session := match s.part.clock.session with | none => some ⟨day, .closed⟩ | some x => some x }
        console := { s.part.console with port := .ready, result := .done } }))

/-- R170: a record copy has 48 bytes, and a DATA read returns the byte at the read pointer and moves it on, from the
last byte back to the first; with no copy, and in CONFIG FAULT, it returns 0 and moves nothing. R172: ATTN is asserted
while a SET flag has its enable set, and a MASK write replaces the enables, in any state that answers one, with an entry in
LOADING untouched. A FLAGS read returns all six flags and clears those it returns (R171); a write to FLAGS is ignored
(R161) (the byte driven is kept as busByte, and bits 6 and 7 of the mask are dropped: log 14). -/
def Obligations.ReadsAndMask : Prop :=
  (∀ r : Record, (recordCopy r).length = 48) ∧
  (∀ s : State,
    (∀ bs n b, s.part.console.port ≠ .readingImage → s.part.console.port ≠ .configFault →
      s.part.console.readBuffer = some bs → s.part.console.readPointer = n → bs[n]? = some b →
      exec .dataRead s = .next (s.withPart { s.part with console := { s.part.console with
        busByte := b, readPointer := if n + 1 = bs.length then 0 else n + 1 } })) ∧
    (s.part.console.readBuffer = none ∨ s.part.console.port = .configFault ∨ s.part.console.port = .readingImage →
      exec .dataRead s = .next (s.withPart { s.part with console := { s.part.console with busByte := 0 } }))) ∧
  (∀ c : Console, c.BitLaw → (c.attn = true ↔ ∃ f : EventFlag, c.flags &&& f.bit ≠ 0 ∧ c.mask &&& f.bit ≠ 0)) ∧
  (∀ (f : EventFlag) (p : Part), p.console.mask &&& f.bit ≠ 0 → (p.raise f).console.attn = true) ∧
  ∀ s : State,
    (s.part.console.port ≠ .readingImage → exec .flagsRead s = .next (s.withPart { s.part with
      console := { s.part.console with busByte := s.part.console.flags, flags := 0 } })) ∧
    ({ s.part.console with flags := 0 } : Console).attn = false ∧
    (∀ v : Byte, s.part.console.port ≠ .readingImage → s.part.console.port ≠ .configFault →
      ∃ t, exec (.maskWrite v) s = .next t ∧
        t = s.withPart { s.part with console := { s.part.console with mask := v &&& 0x3F } } ∧
        (t.part.console.attn = true ↔
          ∃ f : EventFlag, t.part.console.flags &&& f.bit ≠ 0 ∧ v &&& f.bit ≠ 0)) ∧
    ∀ v : Byte, exec (.ignoredRegisterWrite v) s = .next s

/-! ### Text (Section 2) -/

/-- R29: a price is W + F/64, and a fraction F of 1 to 63 reduces to n/d of the same value with n odd and d one of 2, 4,
8, 16, 32 and 64. With d of 8 or less the fraction is one of the seven glyphs of an eighth, and with a greater d it has
no glyph. The magnitude of a net change lies in the range of a price. -/
def Obligations.FractionReduced : Prop :=
  (∀ p : Nat, p ≤ 639999 →
    wholePart p ≤ 9999 ∧ sixtyFourths p ≤ 63 ∧ p = wholePart p * 64 + sixtyFourths p ∧
    (0 < sixtyFourths p →
      (reduced p).1 % 2 = 1 ∧ (reduced p).2 ∈ [2, 4, 8, 16, 32, 64] ∧
      (reduced p).1 * 64 = sixtyFourths p * (reduced p).2 ∧
      ((reduced p).2 ≤ 8 → ∃ e, 1 ≤ e ∧ e ≤ 7 ∧ e * 8 = sixtyFourths p ∧ fractionGlyph (reduced p) = .eighths e) ∧
      (8 < (reduced p).2 → hasCompact p = false))) ∧
  ∀ last prev : Nat, last ≤ 639999 → prev ≤ 639999 → changeSize last prev ≤ 639999

/-- R30 to R35: the full form takes at most 10 cells and the compact form at most 5; a fitted price, change or volume
fills its field exactly, and a position's text has as many cells as its layout is wide. -/
def Obligations.FieldsFillTheirWidth : Prop :=
  (∀ p, p ≤ 639999 → (fullForm p).length ≤ 10 ∧ (hasCompact p = true → (compactForm p).length ≤ 5)) ∧
  (∀ (p q : Option Nat) (w : Nat), (fitPrice p w).text.length = w ∧ (1 ≤ w → (fitChange p q w).text.length = w)) ∧
  (∀ v saturated w, (fitVolume v saturated w).length = w) ∧
  ∀ (sym : Symbol) (d : Displayed) (flash : Bool) (fs : List (FieldKind × Nat)),
    (∀ f ∈ fs, 1 ≤ f.2 ∧ (f.1 = .mark ∨ f.1 = .arrow → f.2 = 1)) →
    (layoutCells sym d flash fs).length = (Layout.fields fs).width

/-- R44: the lag of a print is its seconds past the trade time, modulo a day, in whole minutes up to 99; more than half a
day counts as 0. A print sampled takes it from the Session Clock's time and the entry's trade time, which a merge makes
the older of the two. -/
def Obligations.LagOfPrint : Prop :=
  (∀ now trade : Nat, now ≤ 86399 → trade ≤ 86399 →
    lagMinutes now trade ≤ 99 ∧
    (trade ≤ now → now - trade ≤ 43200 → lagMinutes now trade = min ((now - trade) / 60) 99) ∧
    (trade ≤ now → 43200 < now - trade → lagMinutes now trade = 0) ∧
    (now < trade → now + 86400 - trade ≤ 43200 → lagMinutes now trade = min ((now + 86400 - trade) / 60) 99) ∧
    (now < trade → 43200 < now + 86400 - trade → lagMinutes now trade = 0)) ∧
  (∀ (p : Part) (t : Tape) (now : TimeOfDay) (trade : Nat), p.clock.time = some now → t.rib.countdown = 1 →
    (t.sample p.tapeEnv trade).rib.tapeLag = lagMinutes now.seconds trade) ∧
  ∀ (x : SaleEntry) (price volume trade : Nat), x.tradeTime ≤ 86399 → trade ≤ 86399 →
    ((x.merge price volume trade).tradeTime = x.tradeTime ∨ (x.merge price volume trade).tradeTime = trade) ∧
    (trade < x.tradeTime → x.tradeTime - trade ≤ 43200 → (x.merge price volume trade).tradeTime = trade) ∧
    (x.tradeTime < trade → trade - x.tradeTime < 43200 → (x.merge price volume trade).tradeTime = x.tradeTime)
end

