-- ==== Sys2Proof/Laws/State.lean ====
section
/-! SUPPORT. What each plain update leaves and writes, field by field, so that no later proof unfolds a record update. -/

namespace Sys2Proof.Machine

@[simp] theorem State.onPart_part (f : Part → Part) (s : State) : (s.onPart f).part = f s.part := rfl
@[simp] theorem State.onPart_pending (f : Part → Part) (s : State) : (s.onPart f).pending = s.pending := rfl
@[simp] theorem State.withFront_part (s : State) (c : Instr) : (s.withFront c).part = s.part := rfl
@[simp] theorem State.withFront_pending (s : State) (c : Instr) : (s.withFront c).pending = c :: s.pending := rfl

variable (p : Part)

@[simp] theorem Part.setPort_settings (x : PortState) : (p.setPort x).settings = p.settings := rfl
@[simp] theorem Part.setPort_directory (x : PortState) : (p.setPort x).directory = p.directory := rfl
@[simp] theorem Part.setPort_records (x : PortState) : (p.setPort x).records = p.records := rfl
@[simp] theorem Part.setPort_pages (x : PortState) : (p.setPort x).pages = p.pages := rfl
@[simp] theorem Part.setPort_recalls (x : PortState) : (p.setPort x).recalls = p.recalls := rfl
@[simp] theorem Part.setPort_line (x : PortState) : (p.setPort x).line = p.line := rfl
@[simp] theorem Part.setPort_clock (x : PortState) : (p.setPort x).clock = p.clock := rfl
@[simp] theorem Part.setPort_formatter (x : PortState) : (p.setPort x).formatter = p.formatter := rfl
@[simp] theorem Part.setPort_board (x : PortState) : (p.setPort x).board = p.board := rfl
@[simp] theorem Part.setPort_ribbon (x : PortState) : (p.setPort x).ribbon = p.ribbon := rfl
@[simp] theorem Part.setPort_terminals (x : PortState) : (p.setPort x).terminals = p.terminals := rfl
@[simp] theorem Part.setPort_console (x : PortState) : (p.setPort x).console = { p.console with port := x } := rfl
@[simp] theorem Part.setPort_loader (x : PortState) : (p.setPort x).loader = p.loader := rfl

@[simp] theorem Part.setResult_settings (x : ResultCode) : (p.setResult x).settings = p.settings := rfl
@[simp] theorem Part.setResult_directory (x : ResultCode) : (p.setResult x).directory = p.directory := rfl
@[simp] theorem Part.setResult_records (x : ResultCode) : (p.setResult x).records = p.records := rfl
@[simp] theorem Part.setResult_pages (x : ResultCode) : (p.setResult x).pages = p.pages := rfl
@[simp] theorem Part.setResult_recalls (x : ResultCode) : (p.setResult x).recalls = p.recalls := rfl
@[simp] theorem Part.setResult_line (x : ResultCode) : (p.setResult x).line = p.line := rfl
@[simp] theorem Part.setResult_clock (x : ResultCode) : (p.setResult x).clock = p.clock := rfl
@[simp] theorem Part.setResult_formatter (x : ResultCode) : (p.setResult x).formatter = p.formatter := rfl
@[simp] theorem Part.setResult_board (x : ResultCode) : (p.setResult x).board = p.board := rfl
@[simp] theorem Part.setResult_ribbon (x : ResultCode) : (p.setResult x).ribbon = p.ribbon := rfl
@[simp] theorem Part.setResult_terminals (x : ResultCode) : (p.setResult x).terminals = p.terminals := rfl
@[simp] theorem Part.setResult_console (x : ResultCode) : (p.setResult x).console = { p.console with result := x } := rfl
@[simp] theorem Part.setResult_loader (x : ResultCode) : (p.setResult x).loader = p.loader := rfl

@[simp] theorem Part.finish_settings (x : ResultCode) : (p.finish x).settings = p.settings := rfl
@[simp] theorem Part.finish_directory (x : ResultCode) : (p.finish x).directory = p.directory := rfl
@[simp] theorem Part.finish_records (x : ResultCode) : (p.finish x).records = p.records := rfl
@[simp] theorem Part.finish_pages (x : ResultCode) : (p.finish x).pages = p.pages := rfl
@[simp] theorem Part.finish_recalls (x : ResultCode) : (p.finish x).recalls = p.recalls := rfl
@[simp] theorem Part.finish_line (x : ResultCode) : (p.finish x).line = p.line := rfl
@[simp] theorem Part.finish_clock (x : ResultCode) : (p.finish x).clock = p.clock := rfl
@[simp] theorem Part.finish_formatter (x : ResultCode) : (p.finish x).formatter = p.formatter := rfl
@[simp] theorem Part.finish_board (x : ResultCode) : (p.finish x).board = p.board := rfl
@[simp] theorem Part.finish_ribbon (x : ResultCode) : (p.finish x).ribbon = p.ribbon := rfl
@[simp] theorem Part.finish_terminals (x : ResultCode) : (p.finish x).terminals = p.terminals := rfl
@[simp] theorem Part.finish_console (x : ResultCode) : (p.finish x).console = { p.console with port := .ready, result := x } := rfl
@[simp] theorem Part.finish_loader (x : ResultCode) : (p.finish x).loader = p.loader := rfl

@[simp] theorem Part.raise_settings (f : EventFlag) : (p.raise f).settings = p.settings := rfl
@[simp] theorem Part.raise_directory (f : EventFlag) : (p.raise f).directory = p.directory := rfl
@[simp] theorem Part.raise_records (f : EventFlag) : (p.raise f).records = p.records := rfl
@[simp] theorem Part.raise_pages (f : EventFlag) : (p.raise f).pages = p.pages := rfl
@[simp] theorem Part.raise_recalls (f : EventFlag) : (p.raise f).recalls = p.recalls := rfl
@[simp] theorem Part.raise_line (f : EventFlag) : (p.raise f).line = p.line := rfl
@[simp] theorem Part.raise_clock (f : EventFlag) : (p.raise f).clock = p.clock := rfl
@[simp] theorem Part.raise_formatter (f : EventFlag) : (p.raise f).formatter = p.formatter := rfl
@[simp] theorem Part.raise_board (f : EventFlag) : (p.raise f).board = p.board := rfl
@[simp] theorem Part.raise_ribbon (f : EventFlag) : (p.raise f).ribbon = p.ribbon := rfl
@[simp] theorem Part.raise_terminals (f : EventFlag) : (p.raise f).terminals = p.terminals := rfl
@[simp] theorem Part.raise_console (f : EventFlag) : (p.raise f).console = { p.console with flags := raiseFlag f p.console.flags } := rfl
@[simp] theorem Part.raise_loader (f : EventFlag) : (p.raise f).loader = p.loader := rfl

@[simp] theorem Part.onConsole_settings (f : Console → Console) : (p.onConsole f).settings = p.settings := rfl
@[simp] theorem Part.onConsole_directory (f : Console → Console) : (p.onConsole f).directory = p.directory := rfl
@[simp] theorem Part.onConsole_records (f : Console → Console) : (p.onConsole f).records = p.records := rfl
@[simp] theorem Part.onConsole_pages (f : Console → Console) : (p.onConsole f).pages = p.pages := rfl
@[simp] theorem Part.onConsole_recalls (f : Console → Console) : (p.onConsole f).recalls = p.recalls := rfl
@[simp] theorem Part.onConsole_line (f : Console → Console) : (p.onConsole f).line = p.line := rfl
@[simp] theorem Part.onConsole_clock (f : Console → Console) : (p.onConsole f).clock = p.clock := rfl
@[simp] theorem Part.onConsole_formatter (f : Console → Console) : (p.onConsole f).formatter = p.formatter := rfl
@[simp] theorem Part.onConsole_board (f : Console → Console) : (p.onConsole f).board = p.board := rfl
@[simp] theorem Part.onConsole_ribbon (f : Console → Console) : (p.onConsole f).ribbon = p.ribbon := rfl
@[simp] theorem Part.onConsole_terminals (f : Console → Console) : (p.onConsole f).terminals = p.terminals := rfl
@[simp] theorem Part.onConsole_console (f : Console → Console) : (p.onConsole f).console = f p.console := rfl
@[simp] theorem Part.onConsole_loader (f : Console → Console) : (p.onConsole f).loader = p.loader := rfl

@[simp] theorem Part.onLine_settings (f : Line → Line) : (p.onLine f).settings = p.settings := rfl
@[simp] theorem Part.onLine_directory (f : Line → Line) : (p.onLine f).directory = p.directory := rfl
@[simp] theorem Part.onLine_records (f : Line → Line) : (p.onLine f).records = p.records := rfl
@[simp] theorem Part.onLine_pages (f : Line → Line) : (p.onLine f).pages = p.pages := rfl
@[simp] theorem Part.onLine_recalls (f : Line → Line) : (p.onLine f).recalls = p.recalls := rfl
@[simp] theorem Part.onLine_line (f : Line → Line) : (p.onLine f).line = f p.line := rfl
@[simp] theorem Part.onLine_clock (f : Line → Line) : (p.onLine f).clock = p.clock := rfl
@[simp] theorem Part.onLine_formatter (f : Line → Line) : (p.onLine f).formatter = p.formatter := rfl
@[simp] theorem Part.onLine_board (f : Line → Line) : (p.onLine f).board = p.board := rfl
@[simp] theorem Part.onLine_ribbon (f : Line → Line) : (p.onLine f).ribbon = p.ribbon := rfl
@[simp] theorem Part.onLine_terminals (f : Line → Line) : (p.onLine f).terminals = p.terminals := rfl
@[simp] theorem Part.onLine_console (f : Line → Line) : (p.onLine f).console = p.console := rfl
@[simp] theorem Part.onLine_loader (f : Line → Line) : (p.onLine f).loader = p.loader := rfl

@[simp] theorem Part.onLoader_settings (f : Loader → Loader) : (p.onLoader f).settings = p.settings := rfl
@[simp] theorem Part.onLoader_directory (f : Loader → Loader) : (p.onLoader f).directory = p.directory := rfl
@[simp] theorem Part.onLoader_records (f : Loader → Loader) : (p.onLoader f).records = p.records := rfl
@[simp] theorem Part.onLoader_pages (f : Loader → Loader) : (p.onLoader f).pages = p.pages := rfl
@[simp] theorem Part.onLoader_recalls (f : Loader → Loader) : (p.onLoader f).recalls = p.recalls := rfl
@[simp] theorem Part.onLoader_line (f : Loader → Loader) : (p.onLoader f).line = p.line := rfl
@[simp] theorem Part.onLoader_clock (f : Loader → Loader) : (p.onLoader f).clock = p.clock := rfl
@[simp] theorem Part.onLoader_formatter (f : Loader → Loader) : (p.onLoader f).formatter = p.formatter := rfl
@[simp] theorem Part.onLoader_board (f : Loader → Loader) : (p.onLoader f).board = p.board := rfl
@[simp] theorem Part.onLoader_ribbon (f : Loader → Loader) : (p.onLoader f).ribbon = p.ribbon := rfl
@[simp] theorem Part.onLoader_terminals (f : Loader → Loader) : (p.onLoader f).terminals = p.terminals := rfl
@[simp] theorem Part.onLoader_console (f : Loader → Loader) : (p.onLoader f).console = p.console := rfl
@[simp] theorem Part.onLoader_loader (f : Loader → Loader) : (p.onLoader f).loader = f p.loader := rfl

@[simp] theorem Part.withdraw_settings (age : Nat) : (p.withdraw age).settings = p.settings := rfl
@[simp] theorem Part.withdraw_directory (age : Nat) : (p.withdraw age).directory = p.directory := rfl
@[simp] theorem Part.withdraw_records (age : Nat) : (p.withdraw age).records = p.records := rfl
@[simp] theorem Part.withdraw_pages (age : Nat) : (p.withdraw age).pages = p.pages := rfl
@[simp] theorem Part.withdraw_recalls (age : Nat) : (p.withdraw age).recalls = p.recalls := rfl
@[simp] theorem Part.withdraw_line (age : Nat) : (p.withdraw age).line = { p.line with queue := removeFrame age p.line.queue } := rfl
@[simp] theorem Part.withdraw_clock (age : Nat) : (p.withdraw age).clock = p.clock := rfl
@[simp] theorem Part.withdraw_formatter (age : Nat) : (p.withdraw age).formatter = p.formatter := rfl
@[simp] theorem Part.withdraw_board (age : Nat) : (p.withdraw age).board = p.board := rfl
@[simp] theorem Part.withdraw_ribbon (age : Nat) : (p.withdraw age).ribbon = p.ribbon := rfl
@[simp] theorem Part.withdraw_terminals (age : Nat) : (p.withdraw age).terminals = p.terminals := rfl
@[simp] theorem Part.withdraw_console (age : Nat) : (p.withdraw age).console = p.console := rfl
@[simp] theorem Part.withdraw_loader (age : Nat) : (p.withdraw age).loader = p.loader := rfl

@[simp] theorem Part.modifyRecord_settings (i : Nat) (f : Record → Record) : (p.modifyRecord i f).settings = p.settings := rfl
@[simp] theorem Part.modifyRecord_directory (i : Nat) (f : Record → Record) : (p.modifyRecord i f).directory = p.directory := rfl
@[simp] theorem Part.modifyRecord_records (i : Nat) (f : Record → Record) : (p.modifyRecord i f).records = p.records.modify i f := rfl
@[simp] theorem Part.modifyRecord_pages (i : Nat) (f : Record → Record) : (p.modifyRecord i f).pages = p.pages := rfl
@[simp] theorem Part.modifyRecord_recalls (i : Nat) (f : Record → Record) : (p.modifyRecord i f).recalls = p.recalls := rfl
@[simp] theorem Part.modifyRecord_line (i : Nat) (f : Record → Record) : (p.modifyRecord i f).line = p.line := rfl
@[simp] theorem Part.modifyRecord_clock (i : Nat) (f : Record → Record) : (p.modifyRecord i f).clock = p.clock := rfl
@[simp] theorem Part.modifyRecord_formatter (i : Nat) (f : Record → Record) : (p.modifyRecord i f).formatter = p.formatter := rfl
@[simp] theorem Part.modifyRecord_board (i : Nat) (f : Record → Record) : (p.modifyRecord i f).board = p.board := rfl
@[simp] theorem Part.modifyRecord_ribbon (i : Nat) (f : Record → Record) : (p.modifyRecord i f).ribbon = p.ribbon := rfl
@[simp] theorem Part.modifyRecord_terminals (i : Nat) (f : Record → Record) : (p.modifyRecord i f).terminals = p.terminals := rfl
@[simp] theorem Part.modifyRecord_console (i : Nat) (f : Record → Record) : (p.modifyRecord i f).console = p.console := rfl
@[simp] theorem Part.modifyRecord_loader (i : Nat) (f : Record → Record) : (p.modifyRecord i f).loader = p.loader := rfl

@[simp] theorem Part.setRecallState_settings (i : Nat) (x : RecallState) : (p.setRecallState i x).settings = p.settings := rfl
@[simp] theorem Part.setRecallState_directory (i : Nat) (x : RecallState) : (p.setRecallState i x).directory = p.directory := rfl
@[simp] theorem Part.setRecallState_records (i : Nat) (x : RecallState) : (p.setRecallState i x).records = p.records.modify i fun r => { r with recallState := x } := rfl
@[simp] theorem Part.setRecallState_pages (i : Nat) (x : RecallState) : (p.setRecallState i x).pages = p.pages := rfl
@[simp] theorem Part.setRecallState_recalls (i : Nat) (x : RecallState) : (p.setRecallState i x).recalls = p.recalls := rfl
@[simp] theorem Part.setRecallState_line (i : Nat) (x : RecallState) : (p.setRecallState i x).line = p.line := rfl
@[simp] theorem Part.setRecallState_clock (i : Nat) (x : RecallState) : (p.setRecallState i x).clock = p.clock := rfl
@[simp] theorem Part.setRecallState_formatter (i : Nat) (x : RecallState) : (p.setRecallState i x).formatter = p.formatter := rfl
@[simp] theorem Part.setRecallState_board (i : Nat) (x : RecallState) : (p.setRecallState i x).board = p.board := rfl
@[simp] theorem Part.setRecallState_ribbon (i : Nat) (x : RecallState) : (p.setRecallState i x).ribbon = p.ribbon := rfl
@[simp] theorem Part.setRecallState_terminals (i : Nat) (x : RecallState) : (p.setRecallState i x).terminals = p.terminals := rfl
@[simp] theorem Part.setRecallState_console (i : Nat) (x : RecallState) : (p.setRecallState i x).console = p.console := rfl
@[simp] theorem Part.setRecallState_loader (i : Nat) (x : RecallState) : (p.setRecallState i x).loader = p.loader := rfl

@[simp] theorem Part.setTerminal_settings (k : TerminalId) (x : Terminal) : (p.setTerminal k x).settings = p.settings := rfl
@[simp] theorem Part.setTerminal_directory (k : TerminalId) (x : Terminal) : (p.setTerminal k x).directory = p.directory := rfl
@[simp] theorem Part.setTerminal_records (k : TerminalId) (x : Terminal) : (p.setTerminal k x).records = p.records := rfl
@[simp] theorem Part.setTerminal_pages (k : TerminalId) (x : Terminal) : (p.setTerminal k x).pages = p.pages := rfl
@[simp] theorem Part.setTerminal_recalls (k : TerminalId) (x : Terminal) : (p.setTerminal k x).recalls = p.recalls := rfl
@[simp] theorem Part.setTerminal_line (k : TerminalId) (x : Terminal) : (p.setTerminal k x).line = p.line := rfl
@[simp] theorem Part.setTerminal_clock (k : TerminalId) (x : Terminal) : (p.setTerminal k x).clock = p.clock := rfl
@[simp] theorem Part.setTerminal_formatter (k : TerminalId) (x : Terminal) : (p.setTerminal k x).formatter = p.formatter := rfl
@[simp] theorem Part.setTerminal_board (k : TerminalId) (x : Terminal) : (p.setTerminal k x).board = p.board := rfl
@[simp] theorem Part.setTerminal_ribbon (k : TerminalId) (x : Terminal) : (p.setTerminal k x).ribbon = p.ribbon := rfl
@[simp] theorem Part.setTerminal_terminals (k : TerminalId) (x : Terminal) : (p.setTerminal k x).terminals = p.terminals.set k.val x k.isLt := rfl
@[simp] theorem Part.setTerminal_console (k : TerminalId) (x : Terminal) : (p.setTerminal k x).console = p.console := rfl
@[simp] theorem Part.setTerminal_loader (k : TerminalId) (x : Terminal) : (p.setTerminal k x).loader = p.loader := rfl

@[simp] theorem Part.setTime_settings (x : TimeOfDay) : (p.setTime x).settings = p.settings := rfl
@[simp] theorem Part.setTime_directory (x : TimeOfDay) : (p.setTime x).directory = p.directory := rfl
@[simp] theorem Part.setTime_records (x : TimeOfDay) : (p.setTime x).records = p.records := rfl
@[simp] theorem Part.setTime_pages (x : TimeOfDay) : (p.setTime x).pages = p.pages := rfl
@[simp] theorem Part.setTime_recalls (x : TimeOfDay) : (p.setTime x).recalls = p.recalls := rfl
@[simp] theorem Part.setTime_line (x : TimeOfDay) : (p.setTime x).line = p.line := rfl
@[simp] theorem Part.setTime_clock (x : TimeOfDay) : (p.setTime x).clock = { p.clock with time := some x } := rfl
@[simp] theorem Part.setTime_formatter (x : TimeOfDay) : (p.setTime x).formatter = p.formatter := rfl
@[simp] theorem Part.setTime_board (x : TimeOfDay) : (p.setTime x).board = p.board := rfl
@[simp] theorem Part.setTime_ribbon (x : TimeOfDay) : (p.setTime x).ribbon = p.ribbon := rfl
@[simp] theorem Part.setTime_terminals (x : TimeOfDay) : (p.setTime x).terminals = p.terminals := rfl
@[simp] theorem Part.setTime_console (x : TimeOfDay) : (p.setTime x).console = p.console := rfl
@[simp] theorem Part.setTime_loader (x : TimeOfDay) : (p.setTime x).loader = p.loader := rfl

@[simp] theorem Part.recallSent_settings (age : Nat) : (p.recallSent age).settings = p.settings := rfl
@[simp] theorem Part.recallSent_directory (age : Nat) : (p.recallSent age).directory = p.directory := rfl
@[simp] theorem Part.recallSent_records (age : Nat) : (p.recallSent age).records = p.records := rfl
@[simp] theorem Part.recallSent_pages (age : Nat) : (p.recallSent age).pages = p.pages := rfl
@[simp] theorem Part.recallSent_line (age : Nat) : (p.recallSent age).line = p.line := rfl
@[simp] theorem Part.recallSent_clock (age : Nat) : (p.recallSent age).clock = p.clock := rfl
@[simp] theorem Part.recallSent_formatter (age : Nat) : (p.recallSent age).formatter = p.formatter := rfl
@[simp] theorem Part.recallSent_board (age : Nat) : (p.recallSent age).board = p.board := rfl
@[simp] theorem Part.recallSent_ribbon (age : Nat) : (p.recallSent age).ribbon = p.ribbon := rfl
@[simp] theorem Part.recallSent_terminals (age : Nat) : (p.recallSent age).terminals = p.terminals := rfl
@[simp] theorem Part.recallSent_console (age : Nat) : (p.recallSent age).console = p.console := rfl
@[simp] theorem Part.recallSent_loader (age : Nat) : (p.recallSent age).loader = p.loader := rfl

@[simp] theorem Part.replyOutcome_settings (age : Nat) : (p.replyOutcome age).settings = p.settings := rfl
@[simp] theorem Part.replyOutcome_directory (age : Nat) : (p.replyOutcome age).directory = p.directory := rfl
@[simp] theorem Part.replyOutcome_records (age : Nat) : (p.replyOutcome age).records = p.records := rfl
@[simp] theorem Part.replyOutcome_pages (age : Nat) : (p.replyOutcome age).pages = p.pages := rfl
@[simp] theorem Part.replyOutcome_line (age : Nat) : (p.replyOutcome age).line = p.line := rfl
@[simp] theorem Part.replyOutcome_clock (age : Nat) : (p.replyOutcome age).clock = p.clock := rfl
@[simp] theorem Part.replyOutcome_formatter (age : Nat) : (p.replyOutcome age).formatter = p.formatter := rfl
@[simp] theorem Part.replyOutcome_board (age : Nat) : (p.replyOutcome age).board = p.board := rfl
@[simp] theorem Part.replyOutcome_ribbon (age : Nat) : (p.replyOutcome age).ribbon = p.ribbon := rfl
@[simp] theorem Part.replyOutcome_terminals (age : Nat) : (p.replyOutcome age).terminals = p.terminals := rfl
@[simp] theorem Part.replyOutcome_console (age : Nat) : (p.replyOutcome age).console = p.console := rfl
@[simp] theorem Part.replyOutcome_loader (age : Nat) : (p.replyOutcome age).loader = p.loader := rfl

@[simp] theorem Part.formatterRestart_settings  : (p.formatterRestart).settings = p.settings := rfl
@[simp] theorem Part.formatterRestart_directory  : (p.formatterRestart).directory = p.directory := rfl
@[simp] theorem Part.formatterRestart_records  : (p.formatterRestart).records = p.records := rfl
@[simp] theorem Part.formatterRestart_pages  : (p.formatterRestart).pages = p.pages := rfl
@[simp] theorem Part.formatterRestart_recalls  : (p.formatterRestart).recalls = p.recalls := rfl
@[simp] theorem Part.formatterRestart_line  : (p.formatterRestart).line = p.line := rfl
@[simp] theorem Part.formatterRestart_clock  : (p.formatterRestart).clock = p.clock := rfl
@[simp] theorem Part.formatterRestart_formatter  : (p.formatterRestart).formatter = Formatter.reset := rfl
@[simp] theorem Part.formatterRestart_board  : (p.formatterRestart).board = p.board := rfl
@[simp] theorem Part.formatterRestart_ribbon  : (p.formatterRestart).ribbon = p.ribbon := rfl
@[simp] theorem Part.formatterRestart_terminals  : (p.formatterRestart).terminals = p.terminals := rfl
@[simp] theorem Part.formatterRestart_console  : (p.formatterRestart).console = p.console := rfl
@[simp] theorem Part.formatterRestart_loader  : (p.formatterRestart).loader = p.loader := rfl

@[simp] theorem Part.queueRestart_settings  : (p.queueRestart).settings = p.settings := rfl
@[simp] theorem Part.queueRestart_directory  : (p.queueRestart).directory = p.directory := rfl
@[simp] theorem Part.queueRestart_records  : (p.queueRestart).records = p.records := rfl
@[simp] theorem Part.queueRestart_pages  : (p.queueRestart).pages = p.pages := rfl
@[simp] theorem Part.queueRestart_recalls  : (p.queueRestart).recalls = p.recalls := rfl
@[simp] theorem Part.queueRestart_line  : (p.queueRestart).line = { p.line with queue := [] } := rfl
@[simp] theorem Part.queueRestart_clock  : (p.queueRestart).clock = p.clock := rfl
@[simp] theorem Part.queueRestart_formatter  : (p.queueRestart).formatter = p.formatter := rfl
@[simp] theorem Part.queueRestart_board  : (p.queueRestart).board = p.board := rfl
@[simp] theorem Part.queueRestart_ribbon  : (p.queueRestart).ribbon = p.ribbon := rfl
@[simp] theorem Part.queueRestart_terminals  : (p.queueRestart).terminals = p.terminals := rfl
@[simp] theorem Part.queueRestart_console  : (p.queueRestart).console = p.console := rfl
@[simp] theorem Part.queueRestart_loader  : (p.queueRestart).loader = p.loader := rfl

@[simp] theorem Part.holdArrives_settings (g a : Nat) : (p.holdArrives g a).settings = p.settings := rfl
@[simp] theorem Part.holdArrives_directory (g a : Nat) : (p.holdArrives g a).directory = p.directory := rfl
@[simp] theorem Part.holdArrives_records (g a : Nat) : (p.holdArrives g a).records = p.records := rfl
@[simp] theorem Part.holdArrives_pages (g a : Nat) : (p.holdArrives g a).pages = p.pages := rfl
@[simp] theorem Part.holdArrives_recalls (g a : Nat) : (p.holdArrives g a).recalls = p.recalls := rfl
@[simp] theorem Part.holdArrives_line (g a : Nat) : (p.holdArrives g a).line = p.line := rfl
@[simp] theorem Part.holdArrives_clock (g a : Nat) : (p.holdArrives g a).clock = p.clock := rfl
@[simp] theorem Part.holdArrives_formatter (g a : Nat) : (p.holdArrives g a).formatter = p.formatter := rfl
@[simp] theorem Part.holdArrives_board (g a : Nat) : (p.holdArrives g a).board = p.board.requestHold g a := rfl
@[simp] theorem Part.holdArrives_ribbon (g a : Nat) : (p.holdArrives g a).ribbon = p.ribbon := rfl
@[simp] theorem Part.holdArrives_terminals (g a : Nat) : (p.holdArrives g a).terminals = p.terminals := rfl
@[simp] theorem Part.holdArrives_console (g a : Nat) : (p.holdArrives g a).console = p.console := rfl
@[simp] theorem Part.holdArrives_loader (g a : Nat) : (p.holdArrives g a).loader = p.loader := rfl

@[simp] theorem Part.consoleRestart_settings  : (p.consoleRestart).settings = p.settings := rfl
@[simp] theorem Part.consoleRestart_directory  : (p.consoleRestart).directory = p.directory := rfl
@[simp] theorem Part.consoleRestart_records  : (p.consoleRestart).records = p.records := rfl
@[simp] theorem Part.consoleRestart_pages  : (p.consoleRestart).pages = p.pages := rfl
@[simp] theorem Part.consoleRestart_recalls  : (p.consoleRestart).recalls = p.recalls := rfl
@[simp] theorem Part.consoleRestart_line  : (p.consoleRestart).line = p.line := rfl
@[simp] theorem Part.consoleRestart_clock  : (p.consoleRestart).clock = p.clock := rfl
@[simp] theorem Part.consoleRestart_formatter  : (p.consoleRestart).formatter = p.formatter := rfl
@[simp] theorem Part.consoleRestart_board  : (p.consoleRestart).board = p.board := rfl
@[simp] theorem Part.consoleRestart_ribbon  : (p.consoleRestart).ribbon = p.ribbon := rfl
@[simp] theorem Part.consoleRestart_terminals  : (p.consoleRestart).terminals = p.terminals := rfl
@[simp] theorem Part.consoleRestart_loader  : (p.consoleRestart).loader = p.loader := rfl

variable (b : Board)

@[simp] theorem Board.oweZone_positions (z : ZoneId) : (b.oweZone z).positions = b.positions := rfl
@[simp] theorem Board.oweZone_layouts (z : ZoneId) : (b.oweZone z).layouts = b.layouts := rfl
@[simp] theorem Board.oweZone_zones (z : ZoneId) : (b.oweZone z).zones = b.zones.set z.val (b.zone z).owe z.isLt := rfl
@[simp] theorem Board.oweZone_dirty (z : ZoneId) : (b.oweZone z).dirty = b.dirty := rfl
@[simp] theorem Board.oweZone_op (z : ZoneId) : (b.oweZone z).op = b.op := rfl
@[simp] theorem Board.oweZone_blankPending (z : ZoneId) : (b.oweZone z).blankPending = b.blankPending := rfl
@[simp] theorem Board.oweZone_repaintHeld (z : ZoneId) : (b.oweZone z).repaintHeld = b.repaintHeld := rfl
@[simp] theorem Board.oweZone_cursor (z : ZoneId) : (b.oweZone z).cursor = b.cursor := rfl
@[simp] theorem Board.oweZone_nextSource (z : ZoneId) : (b.oweZone z).nextSource = b.nextSource := rfl
@[simp] theorem Board.oweZone_panels (z : ZoneId) : (b.oweZone z).panels = b.panels := rfl

@[simp] theorem Board.setFlash_positions (k : Nat) (on : Bool) : (b.setFlash k on).positions = b.positions.modify k fun q => { q with flash := on } := rfl
@[simp] theorem Board.setFlash_layouts (k : Nat) (on : Bool) : (b.setFlash k on).layouts = b.layouts := rfl
@[simp] theorem Board.setFlash_zones (k : Nat) (on : Bool) : (b.setFlash k on).zones = b.zones := rfl
@[simp] theorem Board.setFlash_dirty (k : Nat) (on : Bool) : (b.setFlash k on).dirty = b.dirty := rfl
@[simp] theorem Board.setFlash_op (k : Nat) (on : Bool) : (b.setFlash k on).op = b.op := rfl
@[simp] theorem Board.setFlash_blankPending (k : Nat) (on : Bool) : (b.setFlash k on).blankPending = b.blankPending := rfl
@[simp] theorem Board.setFlash_repaintHeld (k : Nat) (on : Bool) : (b.setFlash k on).repaintHeld = b.repaintHeld := rfl
@[simp] theorem Board.setFlash_cursor (k : Nat) (on : Bool) : (b.setFlash k on).cursor = b.cursor := rfl
@[simp] theorem Board.setFlash_nextSource (k : Nat) (on : Bool) : (b.setFlash k on).nextSource = b.nextSource := rfl
@[simp] theorem Board.setFlash_panels (k : Nat) (on : Bool) : (b.setFlash k on).panels = b.panels := rfl

@[simp] theorem Board.startRepaint_positions  : (b.startRepaint).positions = b.positions := rfl
@[simp] theorem Board.startRepaint_layouts  : (b.startRepaint).layouts = b.layouts := rfl
@[simp] theorem Board.startRepaint_zones  : (b.startRepaint).zones = b.zones := rfl
@[simp] theorem Board.startRepaint_dirty  : (b.startRepaint).dirty = b.dirty := rfl
@[simp] theorem Board.startRepaint_op  : (b.startRepaint).op = b.op := rfl
@[simp] theorem Board.startRepaint_blankPending  : (b.startRepaint).blankPending = b.blankPending := rfl
@[simp] theorem Board.startRepaint_repaintHeld  : (b.startRepaint).repaintHeld = b.repaintHeld := rfl
@[simp] theorem Board.startRepaint_cursor  : (b.startRepaint).cursor = if b.positions.length = 0 then none else some 0 := rfl
@[simp] theorem Board.startRepaint_nextSource  : (b.startRepaint).nextSource = if b.cursor.isSome then b.nextSource else .queue := rfl
@[simp] theorem Board.startRepaint_panels  : (b.startRepaint).panels = b.panels := rfl

@[simp] theorem Board.holdGroup_positions (g : Nat) : (b.holdGroup g).positions = b.positions := rfl
@[simp] theorem Board.holdGroup_layouts (g : Nat) : (b.holdGroup g).layouts = b.layouts := rfl
@[simp] theorem Board.holdGroup_op (g : Nat) : (b.holdGroup g).op = b.op := rfl
@[simp] theorem Board.holdGroup_blankPending (g : Nat) : (b.holdGroup g).blankPending = b.blankPending := rfl
@[simp] theorem Board.holdGroup_repaintHeld (g : Nat) : (b.holdGroup g).repaintHeld = b.repaintHeld := rfl
@[simp] theorem Board.holdGroup_cursor (g : Nat) : (b.holdGroup g).cursor = b.cursor := rfl
@[simp] theorem Board.holdGroup_nextSource (g : Nat) : (b.holdGroup g).nextSource = b.nextSource := rfl
@[simp] theorem Board.holdGroup_panels (g : Nat) : (b.holdGroup g).panels = b.panels := rfl

@[simp] theorem Board.startFlash_layouts (i : Nat) : (b.startFlash i).layouts = b.layouts := rfl
@[simp] theorem Board.startFlash_zones (i : Nat) : (b.startFlash i).zones = b.zones := rfl
@[simp] theorem Board.startFlash_dirty (i : Nat) : (b.startFlash i).dirty = b.dirty := rfl
@[simp] theorem Board.startFlash_op (i : Nat) : (b.startFlash i).op = b.op := rfl
@[simp] theorem Board.startFlash_blankPending (i : Nat) : (b.startFlash i).blankPending = b.blankPending := rfl
@[simp] theorem Board.startFlash_repaintHeld (i : Nat) : (b.startFlash i).repaintHeld = b.repaintHeld := rfl
@[simp] theorem Board.startFlash_cursor (i : Nat) : (b.startFlash i).cursor = b.cursor := rfl
@[simp] theorem Board.startFlash_nextSource (i : Nat) : (b.startFlash i).nextSource = b.nextSource := rfl
@[simp] theorem Board.startFlash_panels (i : Nat) : (b.startFlash i).panels = b.panels := rfl

variable (r : Ribbon)

@[simp] theorem Ribbon.recomputeLevel_free  : (r.recomputeLevel).free = r.free := rfl
@[simp] theorem Ribbon.recomputeLevel_urgent  : (r.recomputeLevel).urgent = r.urgent := rfl
@[simp] theorem Ribbon.recomputeLevel_routine  : (r.recomputeLevel).routine = r.routine := rfl
@[simp] theorem Ribbon.recomputeLevel_crawl  : (r.recomputeLevel).crawl = r.crawl := rfl
@[simp] theorem Ribbon.recomputeLevel_suspensionPending  : (r.recomputeLevel).suspensionPending = r.suspensionPending := rfl
@[simp] theorem Ribbon.recomputeLevel_request  : (r.recomputeLevel).request = r.request := rfl
@[simp] theorem Ribbon.recomputeLevel_advance  : (r.recomputeLevel).advance = r.advance := rfl
@[simp] theorem Ribbon.recomputeLevel_countdown  : (r.recomputeLevel).countdown = r.countdown := rfl
@[simp] theorem Ribbon.recomputeLevel_tapeLag  : (r.recomputeLevel).tapeLag = r.tapeLag := rfl
@[simp] theorem Ribbon.recomputeLevel_announced  : (r.recomputeLevel).announced = r.announced := rfl
@[simp] theorem Ribbon.recomputeLevel_omitted  : (r.recomputeLevel).omitted = r.omitted := rfl
@[simp] theorem Ribbon.recomputeLevel_level  : (r.recomputeLevel).level = nextLevel r.level r.occupancy r.tapeLag := rfl
@[simp] theorem Ribbon.recomputeLevel_strobed  : (r.recomputeLevel).strobed = r.strobed := rfl

@[simp] theorem Ribbon.modifyEntry_free (slot : Nat) (f : Entry → Entry) : (r.modifyEntry slot f).free = r.free := rfl
@[simp] theorem Ribbon.modifyEntry_urgent (slot : Nat) (f : Entry → Entry) : (r.modifyEntry slot f).urgent = r.urgent.map fun e => if e.slot = slot then f e else e := rfl
@[simp] theorem Ribbon.modifyEntry_routine (slot : Nat) (f : Entry → Entry) : (r.modifyEntry slot f).routine = r.routine.map fun e => if e.slot = slot then f e else e := rfl
@[simp] theorem Ribbon.modifyEntry_crawl (slot : Nat) (f : Entry → Entry) : (r.modifyEntry slot f).crawl = r.crawl := rfl
@[simp] theorem Ribbon.modifyEntry_suspensionPending (slot : Nat) (f : Entry → Entry) : (r.modifyEntry slot f).suspensionPending = r.suspensionPending := rfl
@[simp] theorem Ribbon.modifyEntry_request (slot : Nat) (f : Entry → Entry) : (r.modifyEntry slot f).request = r.request := rfl
@[simp] theorem Ribbon.modifyEntry_advance (slot : Nat) (f : Entry → Entry) : (r.modifyEntry slot f).advance = r.advance := rfl
@[simp] theorem Ribbon.modifyEntry_countdown (slot : Nat) (f : Entry → Entry) : (r.modifyEntry slot f).countdown = r.countdown := rfl
@[simp] theorem Ribbon.modifyEntry_tapeLag (slot : Nat) (f : Entry → Entry) : (r.modifyEntry slot f).tapeLag = r.tapeLag := rfl
@[simp] theorem Ribbon.modifyEntry_announced (slot : Nat) (f : Entry → Entry) : (r.modifyEntry slot f).announced = r.announced := rfl
@[simp] theorem Ribbon.modifyEntry_omitted (slot : Nat) (f : Entry → Entry) : (r.modifyEntry slot f).omitted = r.omitted := rfl
@[simp] theorem Ribbon.modifyEntry_level (slot : Nat) (f : Entry → Entry) : (r.modifyEntry slot f).level = r.level := rfl
@[simp] theorem Ribbon.modifyEntry_strobed (slot : Nat) (f : Entry → Entry) : (r.modifyEntry slot f).strobed = r.strobed := rfl

@[simp] theorem Ribbon.setStatus_free (slot : Nat) (st : EntryStatus) : (r.setStatus slot st).free = r.free := rfl
@[simp] theorem Ribbon.setStatus_crawl (slot : Nat) (st : EntryStatus) : (r.setStatus slot st).crawl = r.crawl := rfl
@[simp] theorem Ribbon.setStatus_suspensionPending (slot : Nat) (st : EntryStatus) : (r.setStatus slot st).suspensionPending = r.suspensionPending := rfl
@[simp] theorem Ribbon.setStatus_request (slot : Nat) (st : EntryStatus) : (r.setStatus slot st).request = r.request := rfl
@[simp] theorem Ribbon.setStatus_advance (slot : Nat) (st : EntryStatus) : (r.setStatus slot st).advance = r.advance := rfl
@[simp] theorem Ribbon.setStatus_countdown (slot : Nat) (st : EntryStatus) : (r.setStatus slot st).countdown = r.countdown := rfl
@[simp] theorem Ribbon.setStatus_tapeLag (slot : Nat) (st : EntryStatus) : (r.setStatus slot st).tapeLag = r.tapeLag := rfl
@[simp] theorem Ribbon.setStatus_announced (slot : Nat) (st : EntryStatus) : (r.setStatus slot st).announced = r.announced := rfl
@[simp] theorem Ribbon.setStatus_omitted (slot : Nat) (st : EntryStatus) : (r.setStatus slot st).omitted = r.omitted := rfl
@[simp] theorem Ribbon.setStatus_level (slot : Nat) (st : EntryStatus) : (r.setStatus slot st).level = r.level := rfl
@[simp] theorem Ribbon.setStatus_strobed (slot : Nat) (st : EntryStatus) : (r.setStatus slot st).strobed = r.strobed := rfl

/-! ### Terminals of a part -/

@[simp] theorem Part.terminal_setTerminal_self (k : TerminalId) (x : Terminal) :
    (p.setTerminal k x).terminal k = x := by
  simp [Part.terminal, Part.setTerminal, Vector.get_eq_getElem]

theorem Part.terminal_setTerminal_of_ne {j k : TerminalId} (h : j ≠ k) (x : Terminal) :
    (p.setTerminal k x).terminal j = p.terminal j := by
  have hv : k.val ≠ j.val := fun e => h (Fin.ext e.symm)
  simp [Part.terminal, Part.setTerminal, Vector.get_eq_getElem, hv]

@[simp] theorem Part.setTerminal_setTerminal (k : TerminalId) (x y : Terminal) :
    (p.setTerminal k x).setTerminal k y = p.setTerminal k y := by
  simp [Part.setTerminal, Vector.set_set]

@[simp] theorem Part.setTerminal_terminal (k : TerminalId) : p.setTerminal k (p.terminal k) = p := by
  simp [Part.terminal, Part.setTerminal, Vector.get_eq_getElem]

/-! ### Zones of a board -/

@[simp] theorem Board.zone_oweZone_self (z : ZoneId) : (b.oweZone z).zone z = (b.zone z).owe := by
  simp [Board.zone, Board.oweZone, Vector.get_eq_getElem]

theorem Board.zone_oweZone_of_ne {y z : ZoneId} (h : y ≠ z) : (b.oweZone z).zone y = b.zone y := by
  have hv : z.val ≠ y.val := fun e => h (Fin.ext e.symm)
  simp [Board.zone, Board.oweZone, Vector.get_eq_getElem, hv]

@[simp] theorem Zone.owe_fixed (z : Zone) : z.owe.fixed = z.fixed := by
  unfold Zone.owe; split <;> rfl

@[simp] theorem Zone.owe_held (z : Zone) : z.owe.held = z.held := by
  unfold Zone.owe; split <;> rfl

@[simp] theorem Zone.owe_group (z : Zone) : z.owe.group = z.group := by
  unfold Zone.owe; split <;> rfl

end Sys2Proof.Machine
end

