-- ==== Sys2Proof/Laws/Blocks.lean ====
section
/-! SUPPORT. One lemma for each operation that several commands share: which parts of the state it can change, and how. -/

namespace Sys2Proof.Machine

/-! ### Formatter -/

/-- What the start of a formation does to the ribbon: an unbound OMITTED entry is bound (R126). -/
def Request.bind (r : Request) (rib : Ribbon) : Ribbon :=
  match r with
  | .ribbon slot => rib.bindOmitted slot
  | .board _ => rib
  | .terminal _ _ => rib

/-- A formation that begins changes the Formatter, and the ribbon only by the binding. -/
theorem Part.beginFormation_spec (r : Request) (p : Part) :
    ∃ f, p.beginFormation r = { p with formatter := f, ribbon := r.bind p.ribbon } := by
  cases r <;> exact ⟨_, rfl⟩

/-- A request changes the Formatter, and the ribbon only by the binding when it begins at once. -/
theorem Part.request_spec (r : Request) (p : Part) :
    ∃ f rib, p.request r = { p with formatter := f, ribbon := rib } ∧ (rib = p.ribbon ∨ rib = r.bind p.ribbon) := by
  unfold Part.request
  split
  · obtain ⟨f, h⟩ := p.beginFormation_spec r
    exact ⟨f, _, h, .inr rfl⟩
  · cases r <;> exact ⟨_, _, rfl, .inl rfl⟩

/-- The choice after a completion changes the Formatter, and the ribbon only by a binding. -/
theorem Part.endFormation_spec (p : Part) :
    ∃ f rib, p.endFormation = { p with formatter := f, ribbon := rib } ∧
      (rib = p.ribbon ∨ ∃ r : Request, rib = r.bind p.ribbon) := by
  unfold Part.endFormation
  simp only
  split
  · rename_i r f1 h
    obtain ⟨f, h⟩ := ({ p with formatter := f1 } : Part).beginFormation_spec r
    exact ⟨f, _, by rw [h], .inr ⟨r, rfl⟩⟩
  · exact ⟨_, _, rfl, .inl rfl⟩

/-! ### The requesters -/

/-- The Board Writer's request changes the Formatter alone. -/
theorem Part.boardRequest_spec (p : Part) : ∃ f, p.boardRequest = { p with formatter := f } := by
  unfold Part.boardRequest
  split
  · rename_i k src h
    obtain ⟨f, rib, h, hr⟩ := p.request_spec (.board k)
    refine ⟨f, ?_⟩
    rcases hr with rfl | rfl <;> exact h
  · exact ⟨_, rfl⟩

/-- A kick of the Board Writer changes the board only by its choice when it was IDLE (R97), and the Formatter. -/
theorem Part.boardKick_spec (p : Part) :
    ∃ f b, p.boardKick = { p with formatter := f, board := b } ∧
      (b = p.board ∨ p.board.op = .idle ∧ b = p.board.choose) := by
  unfold Part.boardKick
  split
  · rename_i h
    obtain ⟨f, hf⟩ := ({ p with board := p.board.choose } : Part).boardRequest_spec
    exact ⟨f, _, hf, .inr ⟨h, rfl⟩⟩
  · exact ⟨_, _, rfl, .inl rfl⟩

/-- A kick of a terminal changes it only by its choice (R146), and the Formatter. -/
theorem Part.termKick_spec (k : TerminalId) (p : Part) :
    ∃ f x, p.termKick k = { p.setTerminal k x with formatter := f } ∧
      (x = p.terminal k ∨ x = (p.terminal k).choose (p.freshRows (p.terminal k))) := by
  unfold Part.termKick
  simp only
  split
  · exact ⟨p.formatter, p.terminal k, by simp, .inl rfl⟩
  · split
    · rename_i job h
      obtain ⟨f, rib, hf, hr⟩ :=
        (p.setTerminal k ((p.terminal k).choose (p.freshRows (p.terminal k)))).request_spec (.terminal k job)
      refine ⟨f, _, ?_, .inr rfl⟩
      rcases hr with rfl | rfl <;> exact hf
    · exact ⟨_, _, rfl, .inr rfl⟩

theorem Part.termKick_of_busy (k : TerminalId) (p : Part) (h : (p.terminal k).step.isSome = true) :
    p.termKick k = p := by
  simp [Part.termKick, h]

/-- A kick of a list of terminals changes each only by choices, and the Formatter. -/
theorem Part.foldl_termKick_spec (ks : List TerminalId) (p : Part) :
    ∃ f ts, ks.foldl (fun p t => p.termKick t) p = { p with terminals := ts, formatter := f } ∧
      ∀ k (P : Terminal → Prop), P (p.terminal k) → (∀ x rows, P x → P (x.choose rows)) →
        P (ts.get k) := by
  induction ks generalizing p with
  | nil => exact ⟨_, _, rfl, fun k P h _ => h⟩
  | cons j ks ih =>
    obtain ⟨f, x, hx, hc⟩ := p.termKick_spec j
    obtain ⟨g, ts, ht, hp⟩ := ih (p.termKick j)
    refine ⟨g, ts, ?_, ?_⟩
    · rw [List.foldl_cons, ht, hx]
      rfl
    · intro k P h hchoose
      refine hp k P ?_ hchoose
      have hterm : (p.termKick j).terminal k = (p.setTerminal j x).terminal k := by rw [hx]; rfl
      rw [hterm]
      by_cases hk : k = j
      · subst hk
        rw [Part.terminal_setTerminal_self]
        rcases hc with rfl | rfl
        · exact h
        · exact hchoose _ _ h
      · rw [Part.terminal_setTerminal_of_ne p hk]
        exact h

/-- The terminals' kick: what holds of a terminal and survives its choices holds after. -/
theorem Part.termsKick_spec (p : Part) :
    ∃ f ts, p.termsKick = { p with terminals := ts, formatter := f } ∧
      ∀ k (P : Terminal → Prop), P (p.terminal k) → (∀ x rows, P x → P (x.choose rows)) →
        P (ts.get k) :=
  Part.foldl_termKick_spec allTerminals p

/-- The Ribbon Feeder's request changes the ribbon's request, by a binding, and the Formatter. -/
theorem Part.ribbonRequest_spec (p : Part) :
    ∃ f rib, p.ribbonRequest = { p with formatter := f, ribbon := rib } ∧
      (rib = p.ribbon ∨ ∃ slot, rib = { p.ribbon with request := some slot } ∨
        rib = ({ p.ribbon with request := some slot } : Ribbon).bindOmitted slot) := by
  unfold Part.ribbonRequest
  split
  · rename_i bd e h
    split
    · obtain ⟨f, rib, hf, hr⟩ :=
        ({ p with ribbon := { p.ribbon with request := some e.slot } } : Part).request_spec (.ribbon e.slot)
      exact ⟨f, rib, hf, .inr ⟨e.slot, hr⟩⟩
    · exact ⟨_, _, rfl, .inl rfl⟩
  · exact ⟨_, _, rfl, .inl rfl⟩

/-- An operation of the Ribbon Feeder changes the ribbon and the flags as it says, and then the request is made. -/
theorem Part.onTape_spec (g : TapeEnv → Tape → Tape) (p : Part) :
    ∃ f rib, p.onTape g = { p with
        formatter := f, ribbon := rib
        console := { p.console with flags := (g p.tapeEnv ⟨p.ribbon, p.console.flags⟩).flags } } ∧
      (rib = (g p.tapeEnv ⟨p.ribbon, p.console.flags⟩).rib ∨
        ∃ slot, rib = { (g p.tapeEnv ⟨p.ribbon, p.console.flags⟩).rib with request := some slot } ∨
          rib = ({ (g p.tapeEnv ⟨p.ribbon, p.console.flags⟩).rib with
            request := some slot } : Ribbon).bindOmitted slot) :=
  Part.ribbonRequest_spec _

/-! ### The Transmit Queue -/

/-- Taking a frame changes the line alone, and nothing while a frame is being sent (R71). -/
theorem Part.takeFrame_spec (p : Part) :
    ∃ l, p.takeFrame = { p with line := l } ∧ (p.line.current.isSome = true → l = p.line) ∧
      l.sense = p.line.sense ∧ l.listenOnly = p.line.listenOnly ∧ l.nextAge = p.line.nextAge ∧
      ∀ f ∈ l.queue, f ∈ p.line.queue := by
  unfold Part.takeFrame
  split
  · exact ⟨_, rfl, fun _ => rfl, rfl, rfl, rfl, fun f h => h⟩
  · rename_i hc
    split
    · exact ⟨_, rfl, fun _ => rfl, rfl, rfl, rfl, fun f h => h⟩
    · refine ⟨_, rfl, fun h => absurd h hc, rfl, rfl, rfl, ?_⟩
      intro f hf
      exact (List.mem_filter.mp hf).1

/-- A frame that joins changes the line alone, and with a frame being sent it stands at the queue's end (R70). -/
theorem Part.joinQueue_spec (b : TxBody) (p : Part) :
    ∃ l, p.joinQueue b = { p with line := l } ∧ l.sense = p.line.sense ∧ l.listenOnly = p.line.listenOnly ∧
      l.nextAge = p.line.nextAge + 1 ∧
      (p.line.current.isSome = true →
        l = { p.line with queue := p.line.queue ++ [⟨p.line.nextAge, b⟩], nextAge := p.line.nextAge + 1 }) := by
  obtain ⟨l, h, hc, hs, hl, ha, -⟩ := ({ p with
    line := { p.line with
      queue := p.line.queue ++ [{ age := p.line.nextAge, body := b }],
      nextAge := p.line.nextAge + 1 } } : Part).takeFrame_spec
  exact ⟨l, h, hs, hl, ha, hc⟩

/-- A displaced frame changes the Recall Unit and recall states alone (R49, R76). -/
theorem Part.displaced_spec (f : QueuedFrame) (p : Part) :
    ∃ u i, p.displaced f = { p with recalls := u } ∨
      p.displaced f = ({ p with recalls := u } : Part).setRecallState i .listed := by
  unfold Part.displaced
  split
  · split
    · exact ⟨_, _, .inr rfl⟩
    · exact ⟨p.recalls, 0, .inl rfl⟩
  · exact ⟨p.recalls, 0, .inl rfl⟩

/-- An offer that the queue has room for joins it (R70). -/
theorem Part.offer_of_room (b : TxBody) (p : Part) (h : p.line.queue.length < Config.queuePlaces) :
    p.offer b = (p.joinQueue b, true) := by
  simp [Part.offer, h]

/-- A refused offer changes nothing (R70). -/
theorem Part.offer_refused (b : TxBody) (p : Part) (h : (p.offer b).2 = false) : (p.offer b).1 = p := by
  unfold Part.offer at h ⊢
  split at h
  · simp at h
  · rename_i hq
    simp only [hq, if_false]
    split at h
    · rename_i hu
      simp only [hu, if_true]
      cases hy : youngestLow p.line.queue with
      | some f => simp [hy] at h
      | none => rfl
    · rename_i hu
      simp only [hu, if_false]

/-! ### Boards -/

/-- A latched cell is what its key then shows, and every other key shows what it showed. -/
theorem find?_latchCell (key j : Nat) (c : PanelCell) (l : List (Nat × PanelCell)) :
    (latchCell key c l).find? (fun e => e.1 == j) =
      if j = key then some (key, c) else l.find? (fun e => e.1 == j) := by
  by_cases h : j = key
  · subst h
    rw [if_pos rfl]
    induction l with
    | nil => simp [latchCell]
    | cons e l ih =>
      unfold latchCell
      split
      · simp
      · split
        · simp
        · rename_i h2
          have : (e.1 == j) = false := beq_eq_false_iff_ne.mpr fun e' => h2 e'.symm
          rw [List.find?_cons, this]
          exact ih
  · have hk : (key == j) = false := beq_eq_false_iff_ne.mpr fun e => h e.symm
    rw [if_neg h]
    induction l with
    | nil => simp [latchCell, hk]
    | cons e l ih =>
      unfold latchCell
      split
      · rw [List.find?_cons, hk]
      · split
        · rename_i h2
          rw [List.find?_cons, List.find?_cons, hk, ← h2, hk]
        · rw [List.find?_cons, List.find?_cons, ih]

/-- A run of latched cells: the keys of the run show its cells, every other key what it showed (6.3). -/
theorem find?_latchCells (cs : List PanelCell) (key j : Nat) (l : List (Nat × PanelCell)) :
    (latchCells key cs l).find? (fun e => e.1 == j) =
      if key ≤ j ∧ j < key + cs.length then (cs[j - key]?).map (fun c => (j, c))
      else l.find? (fun e => e.1 == j) := by
  induction cs generalizing key l with
  | nil => simp [latchCells]
  | cons c cs ih =>
    rw [latchCells, ih, find?_latchCell]
    by_cases h1 : j = key
    · subst h1
      simp
    · by_cases h2 : key + 1 ≤ j ∧ j < key + 1 + cs.length
      · have h3 : key ≤ j ∧ j < key + (c :: cs).length := by simp; omega
        have h4 : j - key = (j - (key + 1)) + 1 := by omega
        rw [if_pos h2, if_pos h3, h4, List.getElem?_cons_succ]
      · have h3 : ¬ (key ≤ j ∧ j < key + (c :: cs).length) := by simp; omega
        rw [if_neg h2, if_neg h3, if_neg h1]

/-- A latched cell keeps the keys strictly rising. -/
theorem latchCell_sorted (key : Nat) (c : PanelCell) (l : List (Nat × PanelCell))
    (h : (l.map Prod.fst).Pairwise (· < ·)) : ((latchCell key c l).map Prod.fst).Pairwise (· < ·) := by
  have mem : ∀ (l : List (Nat × PanelCell)) x, x ∈ (latchCell key c l).map Prod.fst →
      x = key ∨ x ∈ l.map Prod.fst := by
    intro l
    induction l with
    | nil => intro x hx; simpa [latchCell] using hx
    | cons e l ih =>
      intro x hx
      unfold latchCell at hx
      split at hx
      · simpa using hx
      · split at hx
        · simp only [List.map_cons, List.mem_cons] at hx ⊢
          tauto
        · simp only [List.map_cons, List.mem_cons] at hx ⊢
          rcases hx with hx | hx
          · tauto
          · have := ih x hx
            tauto
  induction l with
  | nil => simp [latchCell]
  | cons e l ih =>
    rw [List.map_cons, List.pairwise_cons] at h
    unfold latchCell
    split
    · rename_i hk
      simp only [List.map_cons, List.pairwise_cons]
      refine ⟨?_, h.1, h.2⟩
      intro x hx
      simp only [List.mem_cons] at hx
      rcases hx with rfl | hx
      · exact hk
      · exact lt_trans hk (h.1 x hx)
    · split
      · rename_i h1 h2
        simp only [List.map_cons, List.pairwise_cons]
        exact ⟨fun x hx => h2 ▸ h.1 x hx, h.2⟩
      · rename_i h1 h2
        simp only [List.map_cons, List.pairwise_cons]
        refine ⟨fun x hx => ?_, ih h.2⟩
        rcases mem l x hx with rfl | hx
        · omega
        · exact h.1 x hx

/-! ### Compression level (R140, R141) -/

theorem occupancyLevel_le (n : Nat) : occupancyLevel n ≤ 3 := by
  unfold occupancyLevel; split <;> [omega; skip]; split <;> [omega; skip]; split <;> omega

theorem lagLevel_le (m : Nat) : lagLevel m ≤ 3 := by
  unfold lagLevel; split <;> [omega; skip]; split <;> [omega; skip]; split <;> omega

/-- A recomputation never leaves the level below the target, nor above both 3 and what it was. -/
theorem nextLevel_spec (level n m : Nat) :
    max (occupancyLevel n) (lagLevel m) ≤ nextLevel level n m ∧
      (level ≤ 3 → nextLevel level n m ≤ 3) := by
  have h1 := occupancyLevel_le n
  have h2 := lagLevel_le m
  unfold nextLevel
  simp only
  split
  · omega
  · split <;> omega

/-! ### Bytes (R179) -/

@[simp] theorem toBytes_length (k n : Nat) : (toBytes k n).length = k := by
  induction k generalizing n with
  | zero => rfl
  | succ k ih => simp [toBytes, ih]

theorem ofBytes_append (xs ys : List Byte) : ofBytes (xs ++ ys) = ofBytes xs * 256 ^ ys.length + ofBytes ys := by
  have key : ∀ (ys : List Byte) (a : Nat),
      ys.foldl (fun n b => n * 256 + b.toNat) a = a * 256 ^ ys.length + ofBytes ys := by
    intro ys
    induction ys with
    | nil => intro a; simp [ofBytes]
    | cons y ys ih =>
      intro a
      rw [ofBytes, List.foldl_cons, List.foldl_cons, ih, ih, List.length_cons, Nat.pow_succ]
      ring
  rw [ofBytes, List.foldl_append, key]
  rfl

theorem ofBytes_lt (bs : List Byte) : ofBytes bs < 256 ^ bs.length := by
  induction bs using List.reverseRecOn with
  | nil => simp [ofBytes]
  | append_singleton bs b ih =>
    have hb : ofBytes [b] < 256 := by simpa [ofBytes] using b.isLt
    rw [ofBytes_append, List.length_append, List.length_singleton, Nat.pow_succ (n := 256) (m := bs.length), Nat.pow_one]
    omega

/-- A number that fits its bytes reads back as itself. -/
theorem ofBytes_toBytes (k n : Nat) (h : n < 256 ^ k) : ofBytes (toBytes k n) = n := by
  induction k generalizing n with
  | zero => simp [toBytes, ofBytes]; omega
  | succ k ih =>
    have hd : n / 256 < 256 ^ k := by rw [Nat.div_lt_iff_lt_mul (by omega)]; rw [Nat.pow_succ] at h; exact h
    rw [toBytes, ofBytes_append, ih _ hd]
    simp [ofBytes]
    omega

/-- A field of the image, a frame or a body is below 256 to the power of its length. -/
theorem field_lt (bs : List Byte) (start len : Nat) : field bs start len < 256 ^ len := by
  refine lt_of_lt_of_le (ofBytes_lt _) (Nat.pow_le_pow_right (by omega) ?_)
  simp only [List.length_take]
  omega

end Sys2Proof.Machine
end

