-- ==== Sys2Proof/Laws/Records.lean ====
section
/-! SUPPORT. What the judgement of contents, a rollover, a mark and the Recall Unit's operations can change. -/

namespace Sys2Proof.Machine

/-! ### Marks on boards (R99) -/

/-- A mark changes zones only by owing a refresh, and the Dirty Queue only by the position joining its tail. -/
theorem Board.mark_spec (k : Nat) (b : Board) :
    ∃ zs d, b.mark k = { b with zones := zs, dirty := d } ∧
      (zs = b.zones ∨ ∃ z, b.zoneOf k = some z ∧ (b.zone z).isProtected = true ∧ zs = (b.oweZone z).zones) ∧
      (d = b.dirty ∨ ∃ z, b.zoneOf k = some z ∧ (b.zone z).isProtected = false ∧ k ∉ b.dirty ∧ d = b.dirty ++ [k]) := by
  unfold Board.mark
  split
  · exact ⟨_, _, rfl, .inl rfl, .inl rfl⟩
  · rename_i z hz
    split
    · rename_i h
      exact ⟨_, _, rfl, .inr ⟨z, hz, h, rfl⟩, .inl rfl⟩
    · rename_i hp
      split
      · exact ⟨_, _, rfl, .inl rfl, .inl rfl⟩
      · split
        · exact ⟨_, _, rfl, .inl rfl, .inl rfl⟩
        · rename_i hd
          refine ⟨_, _, rfl, .inl rfl, .inr ⟨z, hz, by simpa using hp, ?_, rfl⟩⟩
          simpa using hd

/-- What owing leaves of a zone. -/
theorem Zone.owe_spec (z : Zone) :
    z.owe.fixed = z.fixed ∧ z.owe.held = z.held ∧ z.owe.group = z.group ∧
      (z.fixed = false → z.owe.refreshOwed = true) ∧ (z.fixed = true → z.owe = z) := by
  cases h : z.fixed <;> simp [Zone.owe, h]

/-- Marks change zones and the Dirty Queue alone. -/
theorem Board.markAll_spec (ks : List Nat) (b : Board) :
    ∃ zs d, b.markAll ks = { b with zones := zs, dirty := d } := by
  induction ks generalizing b with
  | nil => exact ⟨_, _, rfl⟩
  | cons k ks ih =>
    obtain ⟨zs, d, h, -⟩ := b.mark_spec k
    obtain ⟨zs', d', h'⟩ := ih (b.mark k)
    exact ⟨zs', d', by rw [Board.markAll, List.foldl_cons, ← Board.markAll, h', h]⟩

/-- The marks of dependents change the board's zones and Dirty Queue, and rows of terminals. -/
theorem Part.markDependents_spec (old : List Record) (p : Part) :
    ∃ zs d, p.markDependents old = { p with
      board := { p.board with zones := zs, dirty := d }
      terminals := p.terminals.map (Terminal.mark (changedRecord old p.records)) } := by
  obtain ⟨zs, d, h⟩ := p.board.markAll_spec
    (p.board.positionsWhere fun pos => (pos.record.bind (changedRecord old p.records)).isSome)
  exact ⟨zs, d, by simp only [Part.markDependents, h]⟩

/-- A mark reaches the rows of a terminal alone (R150). -/
theorem Terminal.mark_spec (changed : Nat → Option RowFields) (t : Terminal) :
    ∃ rows, t.mark changed = { t with rows := rows } ∧ rows.length = t.rows.length := by
  unfold Terminal.mark
  split
  · exact ⟨t.rows, rfl, rfl⟩
  · exact ⟨_, rfl, by simp⟩

/-! ### Recall Unit (R51, R58, R59) -/

/-- A dropped reply entry: the Reply List without the record, and its queued frame withdrawn. -/
theorem Part.dropReply_spec (i : Nat) (p : Part) :
    ∃ rs q, p.dropReply i = { p with
        recalls := { p.recalls with replies := rs }, line := { p.line with queue := q } } ∧
      rs.Sublist p.recalls.replies ∧ q.Sublist p.line.queue := by
  unfold Part.dropReply
  split
  · exact ⟨_, _, rfl, List.Sublist.refl _, List.Sublist.refl _⟩
  · simp only
    split
    · exact ⟨_, _, rfl, List.filter_sublist, List.Sublist.refl _⟩
    · split
      · exact ⟨_, _, rfl, List.filter_sublist, List.filter_sublist⟩
      · exact ⟨_, _, rfl, List.Sublist.refl _, List.Sublist.refl _⟩

/-- A freed slot: the slots without the record's, and its queued frame withdrawn. -/
theorem Part.freeSlot_spec (i : Nat) (p : Part) :
    ∃ q, p.freeSlot i = { p with
        recalls := { p.recalls with slots := p.recalls.slots.filter fun sl => sl.record != i }
        line := { p.line with queue := q } } ∧
      q.Sublist p.line.queue := by
  unfold Part.freeSlot
  simp only
  split
  · split
    · exact ⟨_, rfl, List.filter_sublist⟩
    · exact ⟨_, rfl, List.Sublist.refl _⟩
  · exact ⟨_, rfl, List.Sublist.refl _⟩

/-- The change that a step of the Recall Unit makes to a record. -/
def RecallOnly (old new : List Record) : Prop :=
  new.map (fun r => { r with recallState := .none }) = old.map fun r => { r with recallState := .none }

theorem RecallOnly.refl (rs : List Record) : RecallOnly rs rs := rfl

theorem RecallOnly.trans {a b c : List Record} (h : RecallOnly a b) (h' : RecallOnly b c) : RecallOnly a c :=
  Eq.trans h' h

/-- A written recall state changes nothing else of any record. -/
theorem Part.setRecallState_recallOnly (i : Nat) (rs : RecallState) (p : Part) :
    RecallOnly p.records (p.setRecallState i rs).records := by
  apply List.ext_getElem?
  intro j
  simp only [Part.setRecallState, Part.modifyRecord, List.getElem?_map, List.getElem?_modify]
  by_cases h : i = j
  · subst h
    cases p.records[i]? <;> simp
  · simp [h]

/-- A displaced frame leaves the records' quotations as they were. -/
theorem Part.displaced_recallOnly (f : QueuedFrame) (p : Part) :
    RecallOnly p.records (p.displaced f).records := by
  unfold Part.displaced
  split
  · split
    · exact Part.setRecallState_recallOnly _ _ _
    · rfl
  · rfl

/-- An offer changes the line, and by a displacement the Recall Unit and recall states (R70). -/
theorem Part.offer_spec (b : TxBody) (p : Part) :
    ∃ u rs l, (p.offer b).1 = { p with recalls := u, records := rs, line := l } ∧ RecallOnly p.records rs ∧
      l.sense = p.line.sense ∧ l.listenOnly = p.line.listenOnly := by
  unfold Part.offer
  split
  · obtain ⟨l, h, hs, hl, -⟩ := p.joinQueue_spec b
    exact ⟨_, _, l, h, rfl, hs, hl⟩
  · split
    · split
      · rename_i f hf
        simp only
        have hd : ∀ q : Part, ∃ u rs, q.displaced f = { q with recalls := u, records := rs } ∧
            RecallOnly q.records rs := by
          intro q
          obtain ⟨u, i, h | h⟩ := q.displaced_spec f
          · exact ⟨u, _, h, rfl⟩
          · refine ⟨u, (({ q with recalls := u } : Part).setRecallState i .listed).records, h, ?_⟩
            exact ({ q with recalls := u } : Part).setRecallState_recallOnly i .listed
        obtain ⟨u, rs, h, hr⟩ := hd { p with line := { p.line with queue := removeFrame f.age p.line.queue } }
        rw [h]
        obtain ⟨l, hj, hs, hl, -⟩ := ({ p with
          line := { p.line with queue := removeFrame f.age p.line.queue }, recalls := u,
          records := rs } : Part).joinQueue_spec b
        exact ⟨u, rs, l, hj, hr, hs, hl⟩
      · exact ⟨_, _, _, rfl, rfl, rfl, rfl⟩
    · exact ⟨_, _, _, rfl, rfl, rfl, rfl⟩

/-- A recall returned to the head of the list changes the Recall Unit and the record's recall state (R48). -/
theorem Part.returnToHead_spec (i : Nat) (p : Part) :
    ∃ u rs, p.returnToHead i = { p with recalls := u, records := rs } ∧ RecallOnly p.records rs :=
  ⟨_, _, rfl, Part.setRecallState_recallOnly i .listed _⟩

/-- A recall queued changes the Recall Unit, recall states and the line alone (R48). -/
theorem Part.queueRecall_spec (i : Nat) (p : Part) :
    ∃ u rs l, p.queueRecall i = { p with recalls := u, records := rs, line := l } ∧ RecallOnly p.records rs ∧
      l.sense = p.line.sense ∧ l.listenOnly = p.line.listenOnly := by
  unfold Part.queueRecall
  simp only
  set p1 : Part := { p with
    recalls := { p.recalls with
      slots := p.recalls.slots ++ [{ record := i, sendCount := 1, phase := .awaitingOutcome p.line.nextAge }]
      paceRunning := true } }
  obtain ⟨u, rs, l, h, hr, hs, hl⟩ := (p1.setRecallState i .outstanding).offer_spec (.recallFor i)
  have h0 : RecallOnly p.records (p1.setRecallState i .outstanding).records :=
    Part.setRecallState_recallOnly i .outstanding p1
  split
  · exact ⟨u, rs, l, h, h0.trans hr, hs, hl⟩
  · obtain ⟨u', rs', h', hr'⟩ := ((p1.setRecallState i .outstanding).offer (.recallFor i)).1.returnToHead_spec i
    have hrec : ((p1.setRecallState i .outstanding).offer (.recallFor i)).1.records = rs := by rw [h]
    rw [hrec] at hr'
    exact ⟨u', rs', l, by rw [h', h]; rfl, (h0.trans hr).trans hr', hs, hl⟩

/-- The Recall Unit's test changes the Recall Unit, recall states and the line alone (R47). -/
theorem Part.recallTest_spec (p : Part) :
    ∃ u rs l, p.recallTest = { p with recalls := u, records := rs, line := l } ∧ RecallOnly p.records rs ∧
      l.sense = p.line.sense ∧ l.listenOnly = p.line.listenOnly := by
  unfold Part.recallTest
  split
  · rename_i i rest h
    split
    · exact ({ p with recalls := { p.recalls with list := rest } } : Part).queueRecall_spec i
    · exact ⟨_, _, _, rfl, rfl, rfl, rfl⟩
  · exact ⟨_, _, _, rfl, rfl, rfl, rfl⟩

/-- With an empty Recall List the test does nothing (R47). -/
theorem Part.recallTest_of_empty (p : Part) (h : p.recalls.list = []) : p.recallTest = p := by
  simp [Part.recallTest, h]

/-- The end of an event leaves settings, clock, ribbon, console, loader and quotations as they were. -/
theorem Part.settle_spec (p : Part) :
    ∃ f b ts u rs l, p.settle = { p with
        formatter := f, board := b, terminals := ts, recalls := u, records := rs, line := l } ∧
      (b = p.board ∨ p.board.op = .idle ∧ b = p.board.choose) ∧ RecallOnly p.records rs ∧
      l.sense = p.line.sense ∧ l.listenOnly = p.line.listenOnly := by
  obtain ⟨f, b, hb, hc⟩ := p.boardKick_spec
  obtain ⟨g, ts, ht, -⟩ := p.boardKick.termsKick_spec
  obtain ⟨u, rs, l, hr, ho, hs, hl⟩ := p.boardKick.termsKick.recallTest_spec
  refine ⟨g, b, ts, u, rs, l, ?_, hc, ?_, ?_, ?_⟩
  · rw [Part.settle, hr, ht, hb]
  · rw [ht, hb] at ho; exact ho
  · rw [ht, hb] at hs; exact hs
  · rw [ht, hb] at hl; exact hl

/-! ### Judgement (R6) -/

/-- Doubt changes the Recall Unit, the line's queue and the records alone. -/
theorem Part.makeDoubtful_spec (i : Nat) (p : Part) :
    ∃ u rs q, p.makeDoubtful i = { p with recalls := u, records := rs, line := { p.line with queue := q } } ∧
      rs.length = p.records.length ∧ (∀ j, j ≠ i → rs[j]? = p.records[j]?) ∧ q.Sublist p.line.queue := by
  have key : ∀ (f : Record → Record) (rs : List Record), rs.length = p.records.length →
      (∀ j, j ≠ i → rs[j]? = p.records[j]?) →
      (rs.modify i f).length = p.records.length ∧ ∀ j, j ≠ i → (rs.modify i f)[j]? = p.records[j]? := by
    intro f rs hl hj
    refine ⟨by simp [hl], fun j h => ?_⟩
    simp [Ne.symm h, hj j h]
  unfold Part.makeDoubtful
  split
  · exact ⟨_, _, _, rfl, rfl, fun _ _ => rfl, List.Sublist.refl _⟩
  · simp only
    have h1 := key (fun r => { r with shown := { r.shown with doubtful := true } }) p.records rfl fun _ _ => rfl
    split
    · have h2 := key (fun r => { r with recallState := .listed }) _ h1.1 h1.2
      split
      · obtain ⟨rs, q, h, -, hq⟩ := Part.dropReply_spec i _
        refine ⟨_, _, q, h, h2.1, h2.2, ?_⟩
        exact hq
      · exact ⟨_, _, _, rfl, h2.1, h2.2, List.Sublist.refl _⟩
    · exact ⟨_, _, _, rfl, h1.1, h1.2, List.Sublist.refl _⟩

/-- The lookup reads the directory alone (R5). -/
theorem Part.lookup_congr (p q : Part) (h : q.directory = p.directory) (s : Symbol) : q.lookup s = p.lookup s := by
  simp [Part.lookup, h]

/-! ### Codes (R179) and the fields of a mark (R38, R151) -/

/-- A byte is read as a tick exactly when it is that tick's code. -/
theorem Tick.ofCode_eq_some_iff (n : Nat) (t : Tick) : Tick.ofCode n = some t ↔ n = t.code := by
  constructor
  · intro h
    unfold Tick.ofCode at h
    split at h <;> first | (cases h; rfl) | cases h
  · rintro rfl
    cases t <;> rfl

/-- A byte is read as a record state exactly when it is that state's code. -/
theorem InstrState.ofCode_eq_some_iff (n : Nat) (x : InstrState) : InstrState.ofCode n = some x ↔ n = x.code := by
  constructor
  · intro h
    unfold InstrState.ofCode at h
    split at h <;> first | (cases h; rfl) | cases h
  · rintro rfl
    cases x <;> rfl

/-- A quotation whose two prices stand adds no row field, whatever its sizes. -/
theorem rowFieldsChanged_of_prices (d : Displayed) (bid ask : Option Side)
    (hb : bid.map (·.price) = d.bid.map (·.price)) (ha : ask.map (·.price) = d.ask.map (·.price)) :
    rowFieldsChanged d { d with bid := bid, ask := ask } = RowFields.empty := by
  simp [rowFieldsChanged, RowFields.empty, hb, ha]

end Sys2Proof.Machine
end

