-- ==== Sys2Proof/Laws/Tape.lean ====
section
/-! SUPPORT. What the Ribbon Feeder's operations do to the slots and the level. -/

namespace Sys2Proof.Machine

@[simp] theorem Ribbon.recomputeLevel_slots (r : Ribbon) : r.recomputeLevel.slots = r.slots := rfl
@[simp] theorem Ribbon.recomputeLevel_saleEntries (r : Ribbon) : r.recomputeLevel.saleEntries = r.saleEntries := rfl
@[simp] theorem Ribbon.recomputeLevel_occupancy (r : Ribbon) : r.recomputeLevel.occupancy = r.occupancy := rfl

/-- A recomputation establishes the level law (R140). -/
theorem Ribbon.recomputeLevel_levelLaw (r : Ribbon) (h : r.level ≤ 3) : r.recomputeLevel.LevelLaw := by
  obtain ⟨h1, h2⟩ := nextLevel_spec r.level r.occupancy r.tapeLag
  exact ⟨h2 h, le_trans (le_max_left _ _) h1, le_trans (le_max_right _ _) h1⟩

/-- Entries rewritten in place, their slots kept, keep the slots. -/
theorem Ribbon.modifyEntry_slots (slot : Nat) (f : Entry → Entry) (r : Ribbon) (hf : ∀ e, (f e).slot = e.slot) :
    (r.modifyEntry slot f).slots = r.slots := by
  have : Entry.slot ∘ (fun e : Entry => if e.slot = slot then f e else e) = Entry.slot := by
    funext e
    simp only [Function.comp]
    split <;> simp [hf]
  simp [Ribbon.slots, Ribbon.modifyEntry, this]

/-- Entries rewritten in place keep the occupancy. -/
@[simp] theorem Ribbon.modifyEntry_occupancy (slot : Nat) (f : Entry → Entry) (r : Ribbon) :
    (r.modifyEntry slot f).occupancy = r.occupancy := by
  simp [Ribbon.occupancy, Ribbon.modifyEntry]

/-- Entries rewritten in place, their kinds kept, keep the number of SALE entries. -/
theorem Ribbon.modifyEntry_saleEntries (slot : Nat) (f : Entry → Entry) (r : Ribbon)
    (hf : ∀ e, (f e).content.isSale = e.content.isSale) :
    (r.modifyEntry slot f).saleEntries = r.saleEntries := by
  have h : ∀ l : List Entry,
      ((l.map fun e : Entry => if e.slot = slot then f e else e).filter fun e => e.content.isSale).length =
        (l.filter fun e => e.content.isSale).length := by
    intro l
    induction l with
    | nil => rfl
    | cons e l ih =>
      have he : (if e.slot = slot then f e else e).content.isSale = e.content.isSale := by split <;> simp [hf]
      rw [List.map_cons, List.filter_cons, List.filter_cons, he]
      split <;> simp [ih]
  simp only [Ribbon.saleEntries, Ribbon.modifyEntry, List.filter_append, List.length_append, h]

/-- An entry made moves one slot from the free list into the backlog, and adds a SALE entry only for SALE content;
without a free slot nothing is made (R121). -/
theorem Tape.makeEntry_spec (band : Band) (content : EntryContent) (t : Tape) :
    (t.rib.free = [] ∧ t.makeEntry band content = t) ∨
      (t.rib.free.length = (t.makeEntry band content).rib.free.length + 1 ∧
        (t.makeEntry band content).rib.slots.Perm t.rib.slots ∧
        (t.makeEntry band content).rib.saleEntries = t.rib.saleEntries + (if content.isSale then 1 else 0) ∧
        (t.makeEntry band content).rib.occupancy = t.rib.occupancy + 1 ∧
        (t.rib.level ≤ 3 → (t.makeEntry band content).rib.LevelLaw)) := by
  unfold Tape.makeEntry
  split
  · rename_i h
    exact .inl ⟨h, rfl⟩
  · rename_i slot rest h
    refine .inr ?_
    cases band
    · refine ⟨by simp [h], ?_, ?_, ?_, fun hl => Ribbon.recomputeLevel_levelLaw _ hl⟩
      · simp only [Ribbon.recomputeLevel_slots]
        simp only [Ribbon.slots, h, List.map_append, List.map_cons, List.map_nil, List.append_assoc,
          List.cons_append, List.nil_append]
        exact List.Perm.trans (List.Perm.append_left _ List.perm_middle) List.perm_middle
      · simp only [Ribbon.recomputeLevel_saleEntries]
        simp only [Ribbon.saleEntries, List.filter_append, List.length_append, List.filter_cons, List.filter_nil]
        split <;> (simp; try omega)
      · simp only [Ribbon.recomputeLevel_occupancy]
        simp [Ribbon.occupancy]
        omega
    · refine ⟨by simp [h], ?_, ?_, ?_, fun hl => Ribbon.recomputeLevel_levelLaw _ hl⟩
      · simp only [Ribbon.recomputeLevel_slots]
        simp only [Ribbon.slots, h, List.map_append, List.map_cons, List.map_nil, List.append_assoc,
          List.cons_append]
        refine List.Perm.trans ?_ List.perm_middle
        refine List.Perm.append_left _ ?_
        rw [← List.append_assoc]
        exact List.perm_append_singleton _ _
      · simp only [Ribbon.recomputeLevel_saleEntries]
        simp only [Ribbon.saleEntries, List.filter_append, List.length_append, List.filter_cons, List.filter_nil]
        split <;> (simp; try omega)
      · simp only [Ribbon.recomputeLevel_occupancy]
        simp [Ribbon.occupancy]
        omega

/-- A status written keeps the slots, the kinds and the occupancy. -/
theorem Ribbon.setStatus_spec (slot : Nat) (st : EntryStatus) (r : Ribbon) :
    (r.setStatus slot st).slots = r.slots ∧ (r.setStatus slot st).saleEntries = r.saleEntries ∧
      (r.setStatus slot st).occupancy = r.occupancy :=
  ⟨r.modifyEntry_slots slot _ fun _ => rfl, r.modifyEntry_saleEntries slot _ fun _ => rfl,
    r.modifyEntry_occupancy slot _⟩

/-- The binding of an OMITTED entry keeps the slots, the kinds and the occupancy (R126). -/
theorem Ribbon.bindOmitted_spec (slot : Nat) (r : Ribbon) :
    (r.bindOmitted slot).slots = r.slots ∧ (r.bindOmitted slot).occupancy = r.occupancy ∧
      (r.bindOmitted slot).level = r.level ∧ (r.bindOmitted slot).tapeLag = r.tapeLag ∧
      (r.bindOmitted slot).free = r.free := by
  unfold Ribbon.bindOmitted
  split
  · split
    · refine ⟨?_, ?_, rfl, rfl, rfl⟩
      · exact r.modifyEntry_slots slot _ fun _ => rfl
      · exact r.modifyEntry_occupancy slot _
    · exact ⟨rfl, rfl, rfl, rfl, rfl⟩
  · exact ⟨rfl, rfl, rfl, rfl, rfl⟩

end Sys2Proof.Machine
end

