-- ==== Sys2Proof/WellFormed.lean ====
section
/-! DEFINITION. Which commands are well formed: the ranges that the spec gives to the values a command brings in. -/

namespace Sys2Proof

/-- The commands a sender can form: record indices (R1), positions (R93), rows (R144), the kept keys of KEY_CHARACTER
(R155: a backspace and a return are rows of their own) and command codes (Table 10-3). -/
def Instr.WellFormed : Instr → Bool
  | .waitExpiry record => decide (record < 1024)
  | .holdoffExpiry record => decide (record < 1024)
  | .flashTimerExpiry position => decide (position < 256)
  | .highlightExpiry _ row => decide (1 ≤ row) && decide (row ≤ 16)
  | .keyCharacter _ code _ => decide (code ≠ 8) && decide (code ≠ 13)
  | .unknownCommandCode code => decide (code.toNat = 0) || decide (13 < code.toNat)
  | .fullReset | .configItemRead _ | .loadCompletion _ | .endOfTransmission _ | .lineBusy | .interframeGapExpiry
  | .sendComplete | .clash | .backoffExpiry | .paceExpiry | .boardFormationCompletion | .ribbonFormationCompletion
  | .terminalFormationCompletion | .secondTimerExpiry | .panelWriteCompletion | .advanceExpiry _
  | .outputRunCompletion _ | .backspace _ | .selectPage _ | .selectWatch _ | .addToWatch _ | .removeFromWatch _
  | .showDetail _ | .enterSale | .enterQuote | .enterState | .enterNotice | .hold | .release | .readRecord | .setClock
  | .clearStatus | .abortClear | .repaint | .blank | .warmRestart | .dataWrite _ | .dataRead | .flagsRead | .maskWrite _
  | .ignoredRegisterWrite _ | .unknownCommand _ => true

end Sys2Proof
end

