-- ==== Sys2Proof/Tests/Slice0.lean ====
section
/-! SUPPORT. Tests: the well-formedness smoke, the spec's worked figures on one step or one operation each, and for every
statement with hypotheses a concrete state and operands that meet them. -/

namespace Sys2Proof.Tests

open Sys2Proof Sys2Proof.Machine

/-! ### A small running part -/

def abc : Symbol := .ofList [65, 66, 67]
def xyz : Symbol := .ofList [88, 89, 90]

/-- Record ABC before the sale of the spec's 1.12.1. -/
def abcShown : Displayed :=
  { state := .trading, previousClose := some 3000, opening := some 2992, high := some 3016, low := some 2976,
    last := some 3000, tick := .zeroDown, volume := 12300, saturated := false, saleCount := 57, bid := none, ask := none,
    doubtful := false }

def abcRecord : Record :=
  { symbol := abc, home := some 12, priceStep := 8, tapeExclude := false, heard := true, revision := some 40,
    recordDay := some 17, shown := abcShown, recallState := .none, lastWhole := some 46 }

def xyzRecord : Record :=
  { Record.fresh xyz (some 40) 8 false with recallState := .listed }

def place0 : Position :=
  { record := some 0, layout := 1, zone := 1, panel := 0, firstCell := 0, flash := true }

def row0 : Row :=
  { record := some 0, snapshot := some abcShown, pending := false, changed := .empty, lit := .empty, highlight := true }

def screen0 : Terminal :=
  { Terminal.reset with
    state := .live, rows := [row0, row0], drawCursor := 3, watch := [abc], step := some (.run .command [.lf]) }

/-- Station 12 of the spec's 9.8.1, running, with ABC held and one board position. -/
def part0 : Part :=
  { Part.reset with
    settings := { Settings.reset with
      station := 12, transmitEnabled := true, answerEnabled := true, baseSpeed := 8, samplePeriod := 4,
      lateThreshold := 3, recallPace := 40, terminalsInUse := 1 }
    directory := [(abc, 0), (xyz, 1)]
    records := [abcRecord, { xyzRecord with recallState := .none }]
    clock := { time := some ⟨2, 38465⟩, session := some ⟨17, .opened⟩, timetable := [] }
    board := { Board.reset with
      positions := [place0], layouts := [some (.fields [(.last, 6), (.arrow, 1)])]
      zones := (Vector.replicate 16 Zone.reset).set 2 { Zone.reset with group := some 4 }, op := .writing 0 .queue [] }
    ribbon := { Ribbon.reset with advance := some 8, countdown := 2 }
    terminals := (Vector.replicate 8 Terminal.reset).set 0 screen0
    console := { Console.reset with port := .ready }
    loader := { Loader.reset with phase := .locked } }

/-- The running part with a change. -/
def after (f : Part → Part) : State :=
  ⟨f part0, []⟩

def withLine (l : Line) (p : Part) : Part := { p with line := l }
def withPort (s : PortState) (p : Part) : Part := { p with console := { p.console with port := s } }
def withScreen (t : Terminal) (p : Part) : Part := p.setTerminal 0 t
def withRibbon (r : Ribbon) (p : Part) : Part := { p with ribbon := r }
def withClock (c : Clock) (p : Part) : Part := { p with clock := c }
def withRecalls (u : Recall) (p : Part) : Part := { p with recalls := u }
def withBoard (b : Board) (p : Part) : Part := { p with board := b }
def withForming (r : Request) (x : FormedText) (p : Part) : Part :=
  { p with formatter := { p.formatter with forming := some (r, x) } }

/-- A frame being sent, in a state of the transmitter, with attempt `n`. -/
def sendingOf (b : TxBody) (n : Nat) (ph : TxPhase) : Sending :=
  { frame := ⟨7, b⟩, bytes := [], attempt := n, phase := ph }

def lineOf (sense : LineSense) (gap : Bool) (x : Sending) : Line :=
  { Line.reset with sense := sense, gapRunning := gap, nextAge := 8, current := some x }

/-- The sale of 500 ABC at 47 3/8 of the spec's 1.12.1, at 10:41:05. -/
def abcSale : SaleContents :=
  { symbol := abc, day := 17, revision := 41, tradeTime := 38465, price := 3032, volume := 500 }

def busyLine : Line :=
  lineOf (.busy true) false (sendingOf (.sale abcSale) 1 .deferring)

/-- The part that a command leaves. -/
def partAfter (c : Instr) (s : State) : Option Part :=
  match exec c s with
  | .next t => some t.part
  | .fault _ => none
  | .refused _ => none

/-! ### Well-formedness: an ill-formed command for each check -/

theorem test_waitExpiry_refused : Instr.WellFormed (.waitExpiry 1024) = false := by decide
theorem test_waitExpiry_taken : Instr.WellFormed (.waitExpiry 1023) = true := by decide
theorem test_holdoffExpiry_refused : Instr.WellFormed (.holdoffExpiry 1024) = false := by decide
theorem test_flashTimerExpiry_refused : Instr.WellFormed (.flashTimerExpiry 256) = false := by decide
theorem test_flashTimerExpiry_taken : Instr.WellFormed (.flashTimerExpiry 255) = true := by decide
theorem test_highlightExpiry_low_refused : Instr.WellFormed (.highlightExpiry 0 0) = false := by decide
theorem test_highlightExpiry_high_refused : Instr.WellFormed (.highlightExpiry 0 17) = false := by decide
theorem test_highlightExpiry_taken : Instr.WellFormed (.highlightExpiry 7 16) = true := by decide
theorem test_keyCharacter_backspace_refused : Instr.WellFormed (.keyCharacter 0 8 false) = false := by decide
theorem test_keyCharacter_return_refused : Instr.WellFormed (.keyCharacter 0 13 false) = false := by decide
theorem test_unknownCommandCode_low_refused : Instr.WellFormed (.unknownCommandCode 1) = false := by decide
theorem test_unknownCommandCode_high_refused : Instr.WellFormed (.unknownCommandCode 13) = false := by decide
theorem test_unknownCommandCode_taken : Instr.WellFormed (.unknownCommandCode 14) = true := by decide

/-- The table gives bits to no row, so no word spells a command. -/
theorem test_no_word_spells_a_command : decodeTableWord 16 0 = none := by decide

/-! ### The spec's worked figures -/

/-- 1.12.1: the round-lot sale in sequence. -/
theorem test_sale_1_12_1 :
    abcShown.sale 3032 500 = { abcShown with high := some 3032, last := some 3032, tick := .up, volume := 12800,
                                             saleCount := 58 } := by decide +kernel

/-- 1.12.2: DEF's day, sales 1 to 7. -/
theorem test_ticks_1_12_2 :
    let d0 := { Displayed.fresh with previousClose := some 3000 }
    let d4 := (((d0.sale 3000 300).sale 3008 200).sale 3008 100).sale 2990 50
    let d7 := ((d4.sale 2992 400).sale 2992 100).sale 3016 1000
    (d0.sale 3000 300).tick = .none ∧ d7.tick = .up ∧ d7.high = some 3016 ∧ d7.low = some 2992 ∧ d7.volume = 2150 ∧
      d7.saleCount = 7 := by decide

/-- 1.12.4: the revision window across the wrap, record at 4,095. -/
theorem test_gate_1_12_4 :
    let r := { abcRecord with revision := some 4095 }
    reportGate r 0 = .applied false ∧ reportGate r 3 = .applied true ∧ reportGate r 2046 = .applied true ∧
      reportGate r 2047 = .ignored ∧ reportGate r 4095 = .ignored := by decide

/-- 2.12: the board fields of ABC after the sale. -/
theorem test_board_fields_2_12 :
    (fitPrice (some 3032) 6).text = glyphsOf ['4', '7', ' ', '3', '/', '8'] ∧
      (fitChange (some 3032) (some 3000) 5).text = glyphsOf [' ', '+', '1', '/', '2'] ∧
      fitVolume 12800 false 6 = glyphsOf [' ', ' ', ' ', '1', '2', '8'] := by decide

/-- 2.12, 7.8.1, 11.1: ABC's print at levels 0, 1 and 2 with the last printed whole 46. -/
theorem test_prints_2_12 :
    let e : SaleEntry := ⟨abc, 3032, 500, 38465, 0⟩
    printText e 0 (some 46) = glyphsOf ['A', 'B', 'C', ' ', '5', 's', '4', '7'] ++ [.eighths 3] ∧
      printText e 1 (some 46) = glyphsOf ['A', 'B', 'C', ' ', '4', '7'] ++ [.eighths 3] ∧
      printText e 2 (some 46) = glyphsOf ['A', 'B', 'C', ' ', '7'] ++ [.eighths 3] := by decide

/-- R41: digit deletion prints 40 as 0, 40 1/2 as 0 and the glyph and 47 5/16 as 7 5/16; a price below one unit prints as
its fraction alone, whether its last printed whole is near or absent, and the price 0 as 0. -/
theorem test_price_parts_R41 :
    pricePart 2560 2 (some 41) = glyphsOf ['0'] ∧ pricePart 2592 3 (some 36) = glyphsOf ['0'] ++ [.eighths 4] ∧
      pricePart 3028 2 (some 47) = glyphsOf ['7', ' ', '5', '/', '1', '6'] ∧
      pricePart 2592 2 (some 35) = glyphsOf ['4', '0'] ++ [.eighths 4] ∧
      pricePart 32 2 (some 0) = [.eighths 4] ∧ pricePart 32 3 none = [.eighths 4] ∧
      pricePart 20 2 (some 4) = glyphsOf ['5', '/', '1', '6'] ∧ pricePart 0 2 (some 0) = glyphsOf ['0'] := by decide

/-- R136, R137: the urgent entry joins before the boundary of the last character, which sends a separator blank instead. -/
theorem test_suspension_at_last_character :
    let e : Entry := ⟨0, .onRibbon, .notice [65, 66], some (glyphsOf ['A', 'B'])⟩
    let s := after (withRibbon { part0.ribbon with
      routine := [e], crawl := .printing 1, suspensionPending := true })
    ((partAfter (.advanceExpiry true) s).map fun q => (q.ribbon.strobed, q.ribbon.crawl)) =
      some (some (.ch 32), .separating 1 true) := by decide +kernel

/-- 4.7.1 and 11.3: the backoffs of stations 7, 12, 30 and 44 after their first clash. -/
theorem test_backoff_4_7_1 :
    backoffSlots 7 1 = 8 ∧ backoffSlots 12 1 = 13 ∧ backoffSlots 30 1 = 31 ∧ backoffSlots 44 1 = 14 := by decide

/-- 3.8.1: the holdoffs of station 5 and of the home station 12. -/
theorem test_holdoff_3_8_1 : holdoffMs (some 12) 5 = 10 ∧ holdoffMs (some 12) 12 = 0 := by decide

/-- 7.8.3, 11.2: levels by occupancy and lag. -/
theorem test_levels_7_8_3 :
    nextLevel 0 128 1 = 1 ∧ nextLevel 1 256 6 = 2 ∧ nextLevel 2 384 6 = 3 ∧ nextLevel 3 330 11 = 3 ∧
      nextLevel 3 316 8 = 2 ∧ nextLevel 2 151 2 = 1 ∧ crawlSpeed 8 3 = 14 := by decide

/-- 9.8.1: the frame of the completed entry. -/
theorem test_enterSale_9_8_1 :
    let p := withLine busyLine (withPort (.loading .enterSale (some 11) (abc.bytes ++ toBytes 3 3032 ++ [0, 1])) part0)
    let q := partAfter (.dataWrite 0xF4) ⟨{ p with records := [{ abcRecord with revision := some 41 }] }, []⟩
    (q.map fun q => q.line.queue) = some [⟨8, .sale { abcSale with revision := 42 }⟩] ∧
      (q.map fun q => q.console.port) = some (.busy 8) := by decide +kernel

/-- 9.8.2: 300 ABC at 3,028 is off step. -/
theorem test_bad_price_9_8_2 :
    let s := after (withPort (.loading .enterSale (some 11) (abc.bytes ++ toBytes 3 3028 ++ [0, 1])))
    ((partAfter (.dataWrite 44) s).map fun q => q.console.result) = some .badPrice := by decide +kernel

/-- 9.8.2: a command in LOADING aborts the entry. -/
theorem test_abort_9_8_2 :
    ((partAfter .clearStatus (after (withPort (.loading .enterState (some 6) [65])))).map fun q => q.console.port) =
      some .aborted := by decide +kernel

/-- 5.6.1: SET CLOCK with weekday 2, 09:20:00 and day 41 at a station whose day is unset. -/
theorem test_setClock_5_6_1 :
    let s := after (withPort (.loading .setClock (some 5) [2, 9, 20, 0]) ∘ withClock Clock.reset)
    ((partAfter (.dataWrite 41) s).map fun q => q.clock) =
      some { Clock.reset with time := some ⟨2, 33600⟩, session := some ⟨41, .closed⟩ } := by decide +kernel

/-- 7.8.1: the entry's second separator blank empties the backlog. -/
theorem test_entry_end_7_8_1 :
    let e : Entry := ⟨0, .onRibbon, .sale ⟨abc, 3032, 500, 38465, 0⟩, some []⟩
    let s := after (withRibbon { part0.ribbon with
      free := (List.range 512).tail, routine := [e], crawl := .separating 1 false })
    ((partAfter (.advanceExpiry true) s).map fun q => (q.ribbon.crawl, q.ribbon.free.length)) = some (.idle, 512) := by
  decide +kernel

/-- 8.7.3: the lower-case "+qrs" is judged as its capitals, and QRS is not held. -/
theorem test_unknown_symbol_8_7_3 :
    let s := after (withScreen { screen0 with keyLine := [43, 81, 82, 83] })
    ((partAfter (.addToWatch 0) s).map fun q => (q.terminal 0).shows) = some .unknown := by decide +kernel

/-- 6.10.2: the cursor passes positions of a HELD zone, whose refresh is then owed. -/
theorem test_pass_held_6_10_2 :
    let zs := (Vector.replicate 16 Zone.reset).set 2 { Zone.reset with held := true }
    let r := passHeld [{ place0 with zone := 2 }, { place0 with zone := 2 }, { place0 with zone := 3 }] 3 zs
    r.2 = some 5 ∧ (r.1.get 2).refreshOwed = true := by decide

/-- R38, R151: a mark whose change is in the two sizes alone has no row field, and one in the bid price has BID. -/
theorem test_sizes_light_no_field :
    let old := { abcShown with bid := some ⟨3024, 5⟩, ask := some ⟨3032, 7⟩ }
    rowFieldsChanged old { old with bid := some ⟨3024, 9⟩, ask := some ⟨3032, 1⟩ } = RowFields.empty ∧
      rowFieldsChanged old { old with bid := some ⟨3016, 5⟩ } = { RowFields.empty with bid := true } ∧
      rowFieldsChanged old { old with ask := none } = { RowFields.empty with ask := true } := by decide

/-- R179: the five ticks have the codes 0 to 4, and no other code is a tick or a record state. -/
theorem test_tick_and_state_codes :
    ([Tick.none, .up, .down, .zeroUp, .zeroDown].all fun t => Tick.ofCode t.code == some t) = true ∧
      Tick.ofCode 5 = none ∧ InstrState.ofCode 5 = none := by decide

/-- R145: the heading run begins by moving the cursor, to line 1 column 1 (codes 32 and 32), and then sends ESC C. -/
theorem test_heading_run_begins :
    (headingRun (.page 1)).take 5 = [.esc, .code 32, .code 32, .esc, .glyph (.ch 67)] := by decide

/-! ### Witnesses: states and operands that meet the hypotheses of the statements -/

/-- StepTakesFront. -/
theorem witness_StepTakesFront : State.reset.pending = [] := by decide

/-- A running part that meets every invariant, with one SALE entry in the backlog, one frame waiting, one marked position
and one LISTED record. -/
def lawfulPart : Part :=
  { part0 with
    records := [abcRecord, xyzRecord]
    recalls := { Recall.reset with list := [1] }
    line := { busyLine with queue := [⟨7, .clock⟩] }
    board := { part0.board with dirty := [0] }
    ribbon := { part0.ribbon with
      free := List.range' 1 511, routine := [⟨0, .onRibbon, .sale ⟨abc, 3032, 500, 38465, 0⟩, none⟩]
      crawl := .awaitingText } }

def lawful : State :=
  ⟨lawfulPart, [.advanceExpiry true]⟩

/-- The step of the statements on invariants. -/
theorem witness_step_of_lawful : (∃ t, step lawful = .next t) := ⟨_, rfl⟩

/-- PoolLawKept. -/
theorem witness_PoolLawKept : lawfulPart.ribbon.PoolLaw := by
  refine ⟨?_, by decide⟩
  have h : List.range Config.printSlots = 0 :: List.range' 1 511 := by
    rw [List.range_eq_range', show Config.printSlots = 511 + 1 from rfl, List.range'_succ]
  have hs : lawfulPart.ribbon.slots = List.range' 1 511 ++ [0] := by
    rw [Ribbon.slots, show lawfulPart.ribbon.urgent = [] from rfl, List.map_nil, List.append_nil]
    rfl
  rw [h, hs]
  exact List.perm_append_singleton 0 (List.range' 1 511)

/-- LevelLawKept, at the level 0 and, with a tape lag of 10 minutes, at the level 3. -/
theorem witness_LevelLawKept :
    lawfulPart.ribbon.LevelLaw ∧
      ({ part0.ribbon with tapeLag := 10, level := 3 } : Ribbon).LevelLaw := by
  unfold Ribbon.LevelLaw
  decide

/-- QueueLawKept. -/
theorem witness_QueueLawKept : lawfulPart.line.QueueLaw := by
  unfold Line.QueueLaw
  decide

/-- BoardLawKept. -/
theorem witness_BoardLawKept : lawfulPart.BoardLaw := by
  refine ⟨?_, ?_, ?_, ?_, ?_⟩
  · unfold Board.DirtyLaw
    decide
  · unfold Board.FixedLaw
    decide
  · unfold Board.PanelLaw
    decide
  · unfold Part.PortLaw
    decide
  · intro h
    exact absurd h (by decide)

/-- RecordLawKept. -/
theorem witness_RecordLawKept : lawfulPart.RecordLaw := by
  unfold Part.RecordLaw Record.Shape Displayed.Shape
  decide

/-- RecallLawKept. -/
theorem witness_RecallLawKept : lawfulPart.RecallLaw := by
  refine ⟨by decide, fun _ => ⟨⟨by decide, ?_, by decide, ?_, by decide⟩, ?_⟩⟩
  · intro i
    rcases i with _ | _ | i <;> simp [lawfulPart, Part.recallStateOf, Recall.reset, abcRecord, xyzRecord]
  · intro i
    rcases i with _ | _ | i <;> simp [lawfulPart, Part.recallStateOf, Recall.reset, abcRecord, xyzRecord]
  · unfold Part.AwaitLaw
    decide

/-- LimitLawsKept. -/
theorem witness_LimitLawsKept :
    (∀ k, (lawfulPart.terminal k).KeyLaw) ∧ lawfulPart.console.BitLaw ∧ lawfulPart.recalls.SizeLaw := by
  unfold Terminal.KeyLaw Console.BitLaw Recall.SizeLaw
  decide

/-- LockKeepsConfiguration. -/
theorem witness_LockKeepsConfiguration : Instr.dataRead ≠ .fullReset ∧ lawfulPart.loader.phase = .locked := by decide

/-- FaultHoldsUntilReset. -/
theorem witness_FaultHoldsUntilReset :
    Instr.warmRestart ≠ .fullReset ∧ State.reset.part.configFault.loader.phase = .fault ∧
      State.reset.part.configFault.console.port = .configFault := by decide

/-- FullResetRestarts: another station sends, the station itself sends, and a quiet line. -/
theorem witness_FullResetRestarts :
    let own := lineOf (.busy false) false (sendingOf .clock 1 .sending)
    (withLine busyLine part0).line.sense = .busy true ∧ (withLine busyLine part0).line.driverEnabled = false ∧
      (withLine own part0).line.driverEnabled = true ∧ part0.line.sense = .quiet := by decide

/-- A part whose items are all read, its sum so far 0. -/
def loadedPart : Part :=
  { Part.reset with
    settings := part0.settings, directory := part0.directory, records := part0.records, board := part0.board
    loader := { Loader.reset with phase := .items } }

/-- LockStartsPart: terminal A is in use and B is not; a board with positions and one without. -/
theorem witness_LockStartsPart :
    loadedPart.loader.phase = .items ∧ loadedPart.loader.counts = ⟨0, 0, 0, 0, 0, 0⟩ ∧
      loadedPart.loader.finalSum 0 = 0 ∧ loadedPart.board.positions ≠ [] ∧
      loadedPart.settings.terminalsInUse.getLsbD 0 = true ∧ loadedPart.settings.terminalsInUse.getLsbD 1 = false ∧
      ({ loadedPart with board := Board.reset } : Part).board.positions = [] := by decide

/-- BadSumFaults. -/
theorem witness_BadSumFaults :
    loadedPart.loader.phase = .items ∧ loadedPart.loader.counts = ⟨0, 0, 0, 0, 0, 0⟩ ∧
      loadedPart.loader.finalSum 1 ≠ 0 := by decide

/-- A load with one instrument still to be read. -/
def instrumentPart : Part :=
  { loadedPart with loader := { loadedPart.loader with counts := ⟨1, 0, 0, 0, 0, 0⟩ } }

/-- InstrumentItemJudged: an accepted symbol with the homes 0, 62 and 63, and each ground for a drop. -/
theorem witness_InstrumentItemJudged :
    instrumentPart.loader.phase = .items ∧ 0 < instrumentPart.loader.counts.instruments ∧
      instrumentPart.loader.buffer = [] ∧
      ((Symbol.ofList [90]).wellFormed = true ∧ ∀ e ∈ instrumentPart.directory, e.1 ≠ Symbol.ofList [90]) ∧
      (Symbol.ofList [97]).wellFormed = false ∧ (∃ e ∈ instrumentPart.directory, e.1 = abc) ∧
      instrumentPart.directory.Pairwise (fun a b => a.1.before b.1 = true) ∧
      (∀ b ∈ [(8 : Byte), 16, 32, 64], b = 8 ∨ b = 16 ∨ b = 32 ∨ b = 64) ∧ (7 : Byte) ≠ 8 ∧
      ¬ 1 ≤ (0 : Byte).toNat ∧ (62 : Byte).toNat ≤ 62 ∧ 63 ≤ (63 : Byte).toNat := by decide

/-- HeaderAndLayoutsJudged, the header: each value at its limits and one past it. -/
theorem witness_HeaderAndLayoutsJudged_header :
    State.reset.part.loader.phase = .header ∧ State.reset.part.loader.buffer = [] ∧
      (∀ st ∈ [(1 : Byte), 62], 1 ≤ st.toNat ∧ st.toNat ≤ 62) ∧ (∀ st ∈ [(0 : Byte), 63], ¬ (1 ≤ st.toNat ∧ st.toNat ≤ 62)) ∧
      (1024 ≤ 1024 ∧ 1025 < 65536 ∧ ¬ 1025 ≤ 1024) ∧ ((8 : Byte).toNat ≤ 8 ∧ ¬ (9 : Byte).toNat ≤ 8) ∧
      ((16 : Byte).toNat ≤ 16 ∧ ¬ (17 : Byte).toNat ≤ 16) ∧ (256 ≤ 256 ∧ ¬ 257 ≤ 256) ∧
      ((32 : Byte).toNat ≤ 32 ∧ ¬ (33 : Byte).toNat ≤ 32) ∧
      (3 : Byte).toNat < 4 ∧ ¬ 16 < (16 : Byte).toNat ∧ 64 < (65 : Byte).toNat ∧ ¬ 30 < (30 : Byte).toNat ∧
      1 ≤ (9 : Byte).toNat ∧ (9 : Byte).toNat < 10 ∧ 250 < (251 : Byte).toNat ∧ 1 < (2 : Byte).toNat := by decide

/-- A load with items of one table still to be read. -/
def readingPart (c : ItemCounts) : Part :=
  { loadedPart with
    board := { loadedPart.board with layouts := [some (.fields [(.last, 6)]), some (.legend [65, 66])] }
    loader := { loadedPart.loader with counts := c, zonesGiven := [3] } }

/-- HeaderAndLayoutsJudged, the layouts: no field and six, a kind and a width at their limits and past them, no character
and 48, and the counts past the limits. -/
theorem witness_HeaderAndLayoutsJudged_layouts :
    let p := readingPart ⟨0, 1, 0, 0, 0, 0⟩
    let fs : List (Byte × Byte) := [(10, 8), (1, 1), (2, 1), (3, 1), (4, 1), (5, 1)]
    (p.loader.phase = .items ∧ p.loader.counts.instruments = 0 ∧ 0 < p.loader.counts.layouts ∧ p.loader.buffer = []) ∧
      (fs.length ≤ 6 ∧ fs ≠ [] ∧ ∀ e ∈ fs, (1 ≤ e.1.toNat ∧ e.1.toNat ≤ 10) ∧ 1 ≤ e.2.toNat ∧ e.2.toNat ≤ 8) ∧
      (¬ (11 : Byte).toNat ≤ 10 ∧ ¬ (9 : Byte).toNat ≤ 8) ∧ (6 < (7 : Byte).toNat ∧ 48 < (49 : Byte).toNat) ∧
      1 < (2 : Byte).toNat ∧ ([] : List Byte).length ≤ 48 ∧ (List.replicate 48 (65 : Byte)).length ≤ 48 := by
  refine ⟨by decide, ⟨by decide, by decide, ?_⟩, by decide⟩
  simp

/-- TableItemsJudged, the zones and positions: zone 15 and 16, zone 3 given before, groups 15, 16, 254 and 255; no layout, a
LEGEND and fields; panels 127 and 128; a position that ends at cell 80 and one past it; a symbol not held. -/
theorem witness_TableItemsJudged_board :
    let z := readingPart ⟨0, 0, 1, 0, 0, 0⟩
    let q := readingPart ⟨0, 0, 0, 1, 0, 0⟩
    (z.loader.phase = .items ∧ z.loader.buffer = [] ∧ z.loader.counts.instruments = 0 ∧ z.loader.counts.layouts = 0 ∧
      0 < z.loader.counts.zones ∧ (15 : Byte).toNat < 16 ∧ (15 : Fin 16) ∉ z.loader.zonesGiven ∧
      (3 : Fin 16) ∈ z.loader.zonesGiven ∧ 16 ≤ (16 : Byte).toNat ∧ (15 : Byte).toNat ≤ 15 ∧ (254 : Byte).toNat ≤ 254 ∧
      ¬ (255 : Byte).toNat ≤ 254) ∧
    q.loader.counts.zones = 0 ∧ 0 < q.loader.counts.positions ∧ q.board.layout 0 = none ∧ q.board.layout 3 = none ∧
      q.board.layout 1 = some (.fields [(.last, 6)]) ∧ q.board.layout 2 = some (.legend [65, 66]) ∧
      (127 : Byte).toNat ≤ 127 ∧ 128 ≤ (128 : Byte).toNat ∧ (74 : Byte).toNat + (Layout.fields [(.last, 6)]).width ≤ 80 ∧
      80 < (75 : Byte).toNat + (Layout.fields [(.last, 6)]).width ∧ q.lookup abc = some 0 ∧
      q.lookup (.ofList [81]) = none := by decide

/-- TableItemsJudged, the pages and the Timetable: pages 0, 1, 32 and 33, one given before, 16 rows and 17; each action
code and 0 and 6; the hours 23, 24 and 255, the minutes 59, 60 and 255. -/
theorem witness_TableItemsJudged_rest :
    let g := { readingPart ⟨0, 0, 0, 0, 1, 0⟩ with pages := [⟨7, []⟩] }
    let a := readingPart ⟨0, 0, 0, 0, 0, 1⟩
    (g.loader.counts.zones = 0 ∧ g.loader.counts.positions = 0 ∧ 0 < g.loader.counts.pages ∧
      (List.replicate 16 abc).length ≤ 16 ∧ ([] : List Symbol).length ≤ 16 ∧ 16 < (17 : Byte).toNat ∧
      1 ≤ (1 : Byte).toNat ∧ (32 : Byte).toNat ≤ 32 ∧ 32 < (33 : Byte).toNat ∧ (∀ pg ∈ g.pages, pg.number ≠ 32) ∧
      ∃ pg ∈ g.pages, pg.number = 7) ∧
    a.loader.counts.pages = 0 ∧ 0 < a.loader.counts.timetable ∧
      (∀ n ∈ [1, 2, 3, 4, 5], (TimetableAction.ofCode n).isSome = true) ∧ 5 < (6 : Byte).toNat ∧
      (23 : Byte).toNat < 24 ∧ (24 ≤ (24 : Byte).toNat ∧ (24 : Byte) ≠ 255) ∧ (59 : Byte).toNat < 60 ∧
      (60 ≤ (60 : Byte).toNat ∧ (60 : Byte) ≠ 255) := by decide

/-- FrameRoundTrip: contents at the ends of their ranges. -/
theorem witness_FrameRoundTrip :
    (1 ≤ 62 ∧ (65535 : Nat) < 65536 ∧ (16777215 : Nat) < 16777216) ∧
      (let c : QuoteContents := ⟨abc, 17, 65535, 3, some ⟨16777215, 65535⟩, some ⟨0, 0⟩⟩
       c.presence.getLsbD 0 = c.bid.isSome ∧ c.presence.getLsbD 1 = c.ask.isSome ∧
         (∀ x ∈ c.bid, x.price < 16777216 ∧ x.size < 65536) ∧ ∀ x ∈ c.ask, x.price < 16777216 ∧ x.size < 65536) ∧
      (let c : ReplyContents := ⟨abc, 17, 65535, 255, 255, true, 4294967295, 65535, some 16777215, none, none, none, none,
         some ⟨16777215, 65535⟩, none⟩
       c.volume < 4294967296 ∧ c.saleCount < 65536 ∧ (∀ x ∈ c.previousClose, x < 16777216) ∧
         ∀ x ∈ c.bid, x.price < 16777216 ∧ x.size < 65536) ∧
      (1 ≤ (List.replicate 64 (65 : Byte)).length ∧ (List.replicate 64 (65 : Byte)).length ≤ 64) := by
  refine ⟨by decide, ?_, ?_, by decide⟩ <;> simp

/-- LineSenseFollows, the gap timer's expiry. -/
theorem witness_LineSenseFollows_gap :
    let p := withLine (lineOf .quiet true (sendingOf .clock 1 .deferring)) part0
    p.running = true ∧ p.line.gapRunning = true ∧ p.line.sense = .quiet ∧
      ∃ x, p.line.current = some x ∧ x.phase = .deferring := by
  exact ⟨by decide, by decide, by decide, _, rfl, by decide⟩

/-- BackoffFollowsClash, at the attempts 1 and 7, and in BACKOFF. -/
theorem witness_BackoffFollowsClash :
    part0.running = true ∧ (sendingOf .clock 1 .sending).phase = .sending ∧ (sendingOf .clock 7 .sending).attempt ≤ 7 ∧
      (withLine (lineOf (.busy false) false (sendingOf .clock 7 .sending)) part0).line.current
        = some (sendingOf .clock 7 .sending) ∧
      (sendingOf .clock 1 (.backoff 31)).phase = .backoff 31 ∧
      ∃ t, exec .lineBusy (after (withLine (lineOf .quiet false (sendingOf .clock 1 (.backoff 31))))) = .next t :=
  ⟨by decide, by decide, by decide, rfl, rfl, _, rfl⟩

/-- OutcomesReachOwners, the eighth clash. -/
theorem witness_OutcomesReachOwners_clash :
    let p := withPort (.busy 7) (withLine (lineOf (.busy false) false (sendingOf (.sale abcSale) 8 .sending)) part0)
    p.running = true ∧ p.line.queue = [] ∧
      ∃ x, p.line.current = some x ∧ x.phase = .sending ∧ x.attempt = 8 ∧ x.frame.body = .sale abcSale ∧
        p.console.port = .busy x.frame.age :=
  ⟨by decide, by decide, _, rfl, by decide, by decide, by decide, by decide⟩

/-- OutcomesReachOwners, a RECALL sent. -/
theorem witness_OutcomesReachOwners_sent :
    let p := withRecalls { Recall.reset with slots := [⟨0, 1, .awaitingOutcome 7⟩] }
      (withLine (lineOf (.busy false) false (sendingOf (.recallFor 0) 1 .sending)) part0)
    p.running = true ∧ p.line.queue = [] ∧
      ∃ x, p.line.current = some x ∧ x.phase = .sending ∧ x.frame.body = .recallFor 0 :=
  ⟨by decide, by decide, _, rfl, by decide, by decide⟩

/-- OffersJoinOrDisplace: queues of 15 and of 16 frames, with no LOW frame, and with a CLOCK and with a RECALL as the
youngest LOW one. -/
theorem witness_OffersJoinOrDisplace_full :
    let full : TxBody → Line := fun b =>
      { busyLine with
        queue := (List.range 15).map (fun n => ⟨n, .hold 4 0⟩) ++ [⟨15, b⟩], nextAge := 16
        current := some { sendingOf (.sale abcSale) 1 .deferring with frame := ⟨100, .sale abcSale⟩ } }
    (full .clock).queue.tail.length < 16 ∧ (full .clock).current.isSome = true ∧ 16 ≤ (full .clock).queue.length ∧
      (TxBody.session 17 0).frameClass = .urgent ∧ (TxBody.sale abcSale).frameClass ≠ .urgent ∧
      (∀ f ∈ (full (.hold 4 1)).queue, f.body.frameClass ≠ .low) ∧
      (full .clock).queue = (List.range 15).map (fun n => ⟨n, .hold 4 0⟩) ++ ⟨15, .clock⟩ :: [] ∧
      TxBody.clock.frameClass = .low ∧ (TxBody.recallFor 1).frameClass = .low ∧
      ∃ sl ∈ ({ Recall.reset with slots := [⟨1, 1, .awaitingOutcome 15⟩] } : Recall).slots,
        sl.phase = .awaitingOutcome 15 := by decide

/-- OffersJoinOrDisplace, the law of a full queue. -/
theorem witness_OffersJoinOrDisplace_law :
    ({ busyLine with
      queue := (List.range 15).map (fun n => ⟨n, .hold 4 0⟩) ++ [⟨15, .clock⟩], nextAge := 16 } : Line).QueueLaw := by
  unfold Line.QueueLaw
  decide

/-- OffersJoinOrDisplace, the frame taken: a LOW frame before the NORMAL one and one of the same class behind it. -/
theorem witness_OffersJoinOrDisplace_taken :
    let l : Line := { Line.reset with queue := [⟨0, .clock⟩, ⟨1, .sale abcSale⟩, ⟨2, .sale abcSale⟩] }
    l.current = none ∧ (l.queue.map QueuedFrame.age).Nodup ∧
      l.queue = [⟨0, .clock⟩] ++ ⟨1, .sale abcSale⟩ :: [⟨2, .sale abcSale⟩] ∧
      (∀ g ∈ [(⟨0, .clock⟩ : QueuedFrame)], g.body.frameClass.rank < (TxBody.sale abcSale).frameClass.rank) ∧
      (∀ g ∈ [(⟨2, .sale abcSale⟩ : QueuedFrame)], g.body.frameClass.rank ≤ (TxBody.sale abcSale).frameClass.rank) ∧
      part0.records[0]? = some abcRecord ∧ abcRecord.recordDay = some 17 ∧ abcRecord.revision = some 40 ∧
      part0.day = some 17 ∧ part0.clock.time = some ⟨2, 38465⟩ := by decide

/-- HoldsApplied, SENT: a HOLD and a RELEASE of a group with a zone that is not FIXED. -/
theorem witness_HoldsApplied_sent :
    let p := fun a => withPort (.busy 7) (withLine (lineOf (.busy false) false (sendingOf (.hold 4 a) 1 .sending)) part0)
    ((p 0).board.zone 2).group = some 4 ∧ ((p 0).board.zone 2).fixed = false ∧ (p 1).board.op ≠ .idle ∧
      ∀ a ∈ [0, 1], (p a).running = true ∧ (p a).line.current = some (sendingOf (.hold 4 a) 1 .sending) ∧
        (sendingOf (.hold 4 a) 1 .sending).phase = .sending ∧ (p a).console.port = .busy 7 := by decide

/-- HoldsApplied, heard: the actions HOLD and RELEASE and one past them, on a busy line. -/
theorem witness_HoldsApplied_heard :
    let p := withLine busyLine part0
    p.running = true ∧ p.line.driverEnabled = false ∧ p.line.sense ≠ .busy false ∧ p.board.op ≠ .idle ∧
      ∀ a ∈ [0, 1, 2], readFrame (writeFrame 40 (.hold 4 a)) = some (40, .hold 4 a) := by decide +kernel

/-- HoldsApplied, the boards' own operation: a HELD zone of the group that owes a refresh, and an action past RELEASE. -/
theorem witness_HoldsApplied_release :
    let b : Board := { part0.board with
      positions := [{ place0 with zone := 2 }]
      zones := part0.board.zones.set 2 { fixed := false, held := true, refreshOwed := true, group := some 4 } }
    b.zoneOf 0 = some 2 ∧ (b.requestHold 4 1).dirty = [0] ∧ (b.requestHold 4 0).dirty = [] ∧ 2 ≤ 2 := by decide +kernel

/-- LineSenseFollows: a quiet line, a busy one, an end that is no frame and one that is not judged. -/
theorem witness_LineSenseFollows :
    part0.line.sense = .quiet ∧ (withLine busyLine part0).line.sense = .busy true ∧
      (withLine busyLine part0).line.driverEnabled = false ∧ readFrame [1] = none ∧
      (withLine { busyLine with sense := .busy false } part0).line.sense = .busy false := by decide

/-- HeardSaleApplied: the sale of 1.12.1 heard from station 40, at the end of a transmission that was heard to begin, and
at an end on a line sensed quiet. -/
theorem witness_HeardSaleApplied :
    (∀ p ∈ [withLine busyLine part0, part0], p.running = true ∧ p.line.driverEnabled = false ∧
      p.line.sense ≠ .busy false ∧ p.lookup abc = some 0 ∧ p.records[0]? = some abcRecord ∧
      p.day = some abcSale.day) ∧
      (withLine busyLine part0).line.sense = .busy true ∧
      readFrame (writeFrame 40 (.sale abcSale)) = some (40, .sale abcSale) ∧ abcSale.wellFormed = true ∧
      abcRecord.heard = true ∧ abcRecord.revision = some 40 ∧ BitVec.ofNat 12 abcSale.revision = (40 : Revision) + 1 := by
  decide +kernel

/-- A REPLY for ABC. -/
def abcReply : ReplyContents :=
  { symbol := abc, day := 17, revision := 40, stateCode := 2, tickCode := 4, saturated := false, volume := 12300,
    saleCount := 57, previousClose := some 3000, opening := some 2992, high := some 3016, low := some 2976,
    last := some 3000, bid := none, ask := none }

/-- RevisionGateDecides: malformed contents of a report and of a REPLY, a NEVER HEARD record, the distances 0, 1, 2, 2,047
and 2,048, another day, and the recall states. -/
theorem witness_RevisionGateDecides :
    (Contents.sale { abcSale with volume := 0 }).wellFormed = false ∧
      (Contents.reply { abcReply with tickCode := 9 }).wellFormed = false ∧
      (Contents.sale abcSale).wellFormed = true ∧ part0.lookup abc = some 0 ∧ part0.records[0]? = some abcRecord ∧
      part0.lookup xyz = some 1 ∧ (part0.records[1]?).map (·.heard) = some false ∧
      part0.day = some 17 ∧ (∀ x, Contents.sale abcSale ≠ .reply x) ∧
      ((40 : Revision) - 40).toNat = 0 ∧ ((41 : Revision) - 40).toNat = 1 ∧ ((42 : Revision) - 40).toNat = 2 ∧
      ((2087 : Revision) - 40).toNat = 2047 ∧ ((2088 : Revision) - 40).toNat = 2048 ∧ (16 : Day) ≠ 17 ∧
      abcRecord.recallState = .none ∧ xyzRecord.recallState = .listed := by
  refine ⟨by decide +kernel, by decide +kernel, by decide +kernel, by decide, by decide, by decide, by decide, by decide,
    ?_, by decide⟩
  intro x h
  cases h

/-- ReportsChangeRecord, a SALE: an odd lot and a round lot, the first of the day and a later one, and each comparison. -/
theorem witness_ReportsChangeRecord_sale :
    99 < 100 ∧ 100 ≤ 100 ∧ Displayed.fresh.last = none ∧ Displayed.fresh.previousClose = none ∧
      abcShown.last = some 3000 ∧ abcShown.high = some 3016 ∧ abcShown.low = some 2976 ∧
      (abcShown.state = .trading ∧ Displayed.fresh.state = .notOpened) ∧ 3000 < 3001 ∧ 2999 < 3000 ∧
      abcShown.tick = .zeroDown ∧ Displayed.fresh.tick = .none := by decide

/-- ReportsChangeRecord, each STATE code. -/
theorem witness_ReportsChangeRecord_state :
    (∀ n, n = 1 ∨ n = 2 ∨ n = 3 →
        1 ≤ (⟨abc, 17, 41, n⟩ : StateContents).code ∧ (⟨abc, 17, 41, n⟩ : StateContents).code ≤ 3) ∧
      0 < abcShown.saleCount ∧ Displayed.fresh.saleCount = 0 ∧ Displayed.fresh.state = .notOpened ∧
      abcShown.state ≠ .notOpened := by
  refine ⟨?_, by decide⟩
  rintro n (rfl | rfl | rfl) <;> decide

/-- OtherRecordsUntouched. -/
theorem witness_OtherRecordsUntouched : part0.lookup (Contents.sale abcSale).symbol ≠ some 1 := by decide

/-- ReplyConfirmsRecord: a HEARD record at the distances 0 and 2,047, and a NEVER HEARD one. -/
theorem witness_ReplyConfirmsRecord :
    abcReply.wellFormed = true ∧ part0.lookup abc = some 0 ∧ part0.records[0]? = some abcRecord ∧
      part0.day = some abcReply.day ∧
      (∃ rv, abcRecord.revision = some rv ∧ (BitVec.ofNat 12 abcReply.revision - rv).toNat ≤ 2047) ∧
      (BitVec.ofNat 12 2087 - (40 : Revision)).toNat = 2047 ∧ xyzRecord.heard = false := by
  refine ⟨by decide +kernel, by decide, by decide, by decide, ⟨40, by decide, by decide⟩, by decide, by decide⟩

/-- SecondAdvances: inside a minute, at midnight, and with the clock UNSET. -/
theorem witness_SecondAdvances :
    part0.running = true ∧ part0.clock.time = some ⟨2, 38465⟩ ∧ (38465 + 1) % 60 ≠ 0 ∧
      (withClock { part0.clock with time := some ⟨7, 86399⟩ } part0).clock.time = some ⟨7, 86399⟩ ∧
      (withClock Clock.reset part0).clock.time = none := by decide

/-- SecondAdvances, a CLOCK frame heard: each field at its ends and one past them. -/
theorem witness_SecondAdvances_heard :
    let p := withLine busyLine part0
    p.running = true ∧ p.line.driverEnabled = false ∧ p.line.sense ≠ .busy false ∧
      readFrame (writeFrame 40 (.clock 7 23 59 59)) = some (40, .clock 7 23 59 59) ∧
      readFrame (writeFrame 40 (.clock 8 24 60 60)) = some (40, .clock 8 24 60 60) ∧
      (1 ≤ 7 ∧ 7 ≤ 7) ∧ 23 ≤ 23 ∧ 59 ≤ 59 ∧ 7 < 8 ∧ 23 < 24 ∧ 59 < 60 := by decide +kernel

/-- TimetableActionsAct: 09:30 of weekday 2, as in 5.6.1, with an OPEN and a CLOSE entry. -/
theorem witness_TimetableActionsAct_session :
    let e : TimetableEntry := ⟨0x3E, some 9, some 30, .openSession⟩
    let p := withClock ⟨some ⟨2, 9 * 3600 + 30 * 60 - 1⟩, some ⟨41, .closed⟩, [e]⟩ part0
    let q := withClock ⟨some ⟨2, 9 * 3600 + 30 * 60 - 1⟩, some ⟨41, .opened⟩, [{ e with action := .closeSession }]⟩
      (withLine busyLine part0)
    p.running = true ∧ p.clock.timetable = [e] ∧ e.weekdays.getLsbD (2 - 1) = true ∧ e.hour = some 9 ∧
      e.minute = some 30 ∧ p.clock.session = some ⟨41, .closed⟩ ∧ q.clock.session = some ⟨41, .opened⟩ ∧
      q.line.listenOnly = false ∧ q.line.queue.length < 16 ∧ q.line.current.isSome = true := by decide

/-- TimetableActionsAct, TAPE TIME with a slot and with none, REPAINT with a blank pending, under way and neither, and SEND
CLOCK on a clock source, on another station and on a listen-only one; at any hour and at a named one. -/
theorem witness_TimetableActionsAct_others :
    let e : TimetableAction → TimetableEntry := fun a => ⟨0x02, none, some 0, a⟩
    let p := fun a => withClock ⟨some ⟨2, 23 * 3600 + 0 * 60 - 1⟩, none, [e a]⟩
      (withForming (.board 0) (.cells []) (withLine busyLine
        (withRibbon { part0.ribbon with free := [511], crawl := .awaitingText } part0)))
    (∀ a ∈ [TimetableAction.tapeTime, .repaint, .sendClock], (p a).running = true ∧ 0 < 23 * 3600 + 0 * 60 ∧
      (p a).clock.time = some ⟨2, 23 * 3600 + 0 * 60 - 1⟩ ∧ (p a).clock.timetable = [e a] ∧
      (e a).weekdays.getLsbD (2 - 1) = true ∧ (e a).hour = none ∧ (e a).minute = some 0 ∧ (e a).action = a ∧
      (p a).formatter.forming.isSome = true ∧ (p a).ribbon.crawl ≠ .idle ∧ (p a).board.op ≠ .idle ∧
      (p a).recalls.list = []) ∧
      (p .tapeTime).ribbon.free = 511 :: [] ∧ ({ part0.ribbon with free := [] } : Ribbon).free = [] ∧
      part0.board.blankPending = false ∧ part0.board.op = .writing 0 .queue [] ∧ part0.board.positions ≠ [] ∧
      ({ part0.board with op := .blanking 0 } : Board).op = .blanking 0 ∧
      part0.settings.clockSource = false ∧ ({ part0.settings with clockSource := true } : Settings).clockSource = true ∧
      busyLine.listenOnly = false ∧ busyLine.queue.length < 16 ∧ busyLine.current.isSome = true := by decide

/-- RecallTimersAct, the pace. -/
theorem witness_RecallTimersAct_pace :
    let p := withLine busyLine (withRecalls { Recall.reset with list := [1], paceRunning := true } part0)
    p.running = true ∧ p.recalls.paceRunning = true ∧ p.recalls.list = 1 :: [] ∧ p.recalls.slots.length < 4 ∧
      p.clock.session.isSome = true ∧ p.line.listenOnly = false ∧ p.line.queue.length < 16 ∧
      p.line.current.isSome = true := by decide

/-- RecallTimersAct, the wait: a listen-only station, the third send, and the second. -/
theorem witness_RecallTimersAct_wait :
    let u : Nat → Recall := fun n => { Recall.reset with slots := [⟨1, n, .waiting⟩] }
    part0.running = true ∧ (u 3).slots.find? (fun x => x.record == 1) = some ⟨1, 3, .waiting⟩ ∧
      (u 2).slots.find? (fun x => x.record == 1) = some ⟨1, 2, .waiting⟩ ∧ (u 3).list = [] ∧
      (withLine { busyLine with listenOnly := true } part0).line.listenOnly = true ∧ busyLine.listenOnly = false ∧
      busyLine.queue.length < 16 ∧ busyLine.current.isSome = true := by decide

/-- RecallTimersAct, the holdoff: ABC is answered, and XYZ, NEVER HEARD, is not. -/
theorem witness_RecallTimersAct_holdoff :
    let p := withLine busyLine (withRecalls { Recall.reset with replies := [⟨0, .holding 24⟩, ⟨1, .holding 24⟩] } part0)
    p.running = true ∧ p.recalls.replies.find? (fun x => x.record == 0) = some ⟨0, .holding 24⟩ ∧
      p.recalls.replies.find? (fun x => x.record == 1) = some ⟨1, .holding 24⟩ ∧ p.records[0]? = some abcRecord ∧
      abcRecord.heard = true ∧ abcRecord.shown.doubtful = false ∧ abcRecord.recordDay = some 17 ∧ p.day = some 17 ∧
      p.line.listenOnly = false ∧ p.line.queue.length < 16 ∧ p.line.current.isSome = true ∧
      (p.records[1]?).map (·.heard) = some false := by decide

/-- FormatterServesInOrder: a waiting place of each kind, and a terminal two places after the last served. -/
theorem witness_FormatterServesInOrder :
    let f : Formatter := { Formatter.reset with termWait := Formatter.reset.termWait.set 2 (some .heading) }
    (withForming (.board 0) (.cells []) part0).formatter.forming.isSome = true ∧
      ({ f with ribbonWait := some 511 } : Formatter).ribbonWait = some 511 ∧ f.ribbonWait = none ∧
      ({ f with boardWait := some 255 } : Formatter).boardWait = some 255 ∧ f.boardWait = none ∧
      f.termWait.get (f.lastServed + 1 + 2) = some .heading ∧
      (∀ e : Fin 8, e < 2 → f.termWait.get (f.lastServed + 1 + e) = none) ∧
      ∀ t, Formatter.reset.termWait.get t = none := by decide

/-- FormatterServesInOrder, the binding: an unbound OMITTED notice, a bound one and a SALE entry. -/
theorem witness_FormatterServesInOrder_binding :
    let u : Entry := ⟨5, .onRibbon, .omitted none, none⟩
    let v : Entry := ⟨6, .waiting, .omitted (some 3), none⟩
    let w : Entry := ⟨7, .waiting, .sale ⟨abc, 3032, 500, 38465, 0⟩, none⟩
    let r : Ribbon := { part0.ribbon with routine := [u, v, w], omitted := 12 }
    r.entry 5 = some u ∧ u.content = .omitted none ∧ r.entry 6 = some v ∧ v.content ≠ .omitted none ∧
      r.entry 7 = some w ∧ w.content ≠ .omitted none ∧ (6 : Nat) ≠ 5 := by decide

/-- RecallHeardActs: a symbol not held, another day, LISTED with 3 and with 4 slots, a queued RECALL and one that is being
sent, and an answer with 7 and with 8 on the list. -/
theorem witness_RecallHeardActs :
    part0.lookup (.ofList [81]) = none ∧ part0.day ≠ some 16 ∧ part0.lookup abc = some 0 ∧ part0.lookup xyz = some 1 ∧
      part0.records[0]? = some abcRecord ∧ part0.day = some 17 ∧
      lawfulPart.records[1]? = some xyzRecord ∧ xyzRecord.shown.doubtful = true ∧ xyzRecord.recallState = .listed ∧
      (List.replicate 3 (⟨9, 1, .waiting⟩ : Slot)).length < 4 ∧ 4 ≤ (List.replicate 4 (⟨9, 1, .waiting⟩ : Slot)).length ∧
      ([⟨1, 1, .awaitingOutcome 7⟩] : List Slot).find? (fun y => y.record == 1) = some ⟨1, 1, .awaitingOutcome 7⟩ ∧
      (∃ f ∈ lawfulPart.line.queue, f.age = 7) ∧ (∀ f ∈ lawfulPart.line.queue, f.age ≠ 6) ∧
      abcRecord.recallState = .none ∧ abcRecord.heard = true ∧ abcRecord.shown.doubtful = false ∧
      abcRecord.recordDay = some 17 ∧ part0.line.listenOnly = false ∧ part0.settings.answerEnabled = true ∧
      1 ≤ part0.settings.station ∧ ({ abcRecord with home := some 40 } : Record).home ≠ some part0.settings.station ∧
      (∀ e ∈ part0.recalls.replies, e.record ≠ 0) ∧ 7 < 8 ∧ 8 ≤ 8 := by decide

/-- SessionHeardActs: a day unset, OPEN and CLOSED, with blank at close, and the phases 0, 1 and 2. -/
theorem witness_SessionHeardActs :
    (withClock Clock.reset part0).clock.session = none ∧ part0.clock.session = some ⟨17, .opened⟩ ∧
      (withClock { Clock.reset with session := some ⟨17, .closed⟩ } part0).clock.session = some ⟨17, .closed⟩ ∧
      ({ part0.settings with blankAtClose := true } : Settings).blankAtClose = true ∧
      part0.board.blankUnderWay = false ∧ (255 : Day) + 1 = 0 ∧ (Contents.sale abcSale).wellFormed = true ∧
      (2 ≤ 2 ∧ 2 ≠ 1 ∧ 2 ≠ 0 ∧ (16 : Day) ≠ 17) := by
  decide +kernel

/-- NoticeReachesDisplays: each urgency, a terminal in use and one that is UNUSED. -/
theorem witness_NoticeReachesDisplays :
    let p := withForming (.board 0) (.cells []) (withRibbon { part0.ribbon with free := [511], crawl := .awaitingText } part0)
    p.formatter.forming.isSome = true ∧ p.ribbon.crawl ≠ .idle ∧ p.ribbon.free = 511 :: [] ∧ 2 ≤ 255 ∧ 0 ≤ 1 ∧ 1 ≤ 1 ∧
      (p.terminal 0).state ≠ .unused ∧ (p.terminal 1).state = .unused := by decide

/-- BoardCellsWritten: a position of an unprotected zone, and one of a HELD zone. -/
theorem witness_BoardCellsWritten :
    let p := withForming (.board 0) (.cells []) (withBoard { part0.board with op := .forming 0 .queue } part0)
    p.running = true ∧ p.formatter.forming = some (.board 0, .cells []) ∧ p.board.op = .forming 0 .queue ∧
      p.board.positions[0]? = some place0 ∧ p.board.blankPending = false ∧
      (p.board.zone place0.zone).isProtected = false ∧
      (({ p.board with zones := p.board.zones.set 1 { Zone.reset with held := true } } : Board).zone place0.zone).held
        = true := by decide

/-- RibbonTextStored. -/
theorem witness_RibbonTextStored :
    let e : Entry := ⟨0, .onRibbon, .sale ⟨abc, 3032, 500, 38465, 0⟩, none⟩
    let p := withForming (.ribbon 0) (.print [] (some (0, 47)))
      (withRibbon { part0.ribbon with routine := [e], crawl := .awaitingText } part0)
    p.running = true ∧ p.formatter.forming = some (.ribbon 0, .print [] (some (0, 47))) ∧ p.ribbon.entry 0 = some e ∧
      e.status = .onRibbon ∧ p.ribbon.crawl = .awaitingText ∧ p.records[0]? = some abcRecord := by decide

/-- TerminalRunBegins: the first and the last row of a drawing, and a live rewrite. -/
theorem witness_TerminalRunBegins :
    let p := withForming (.terminal 0 (.draw 15)) (.row [])
      (withScreen { screen0 with step := some (.request (.draw 15)) } part0)
    let q := withForming (.terminal 0 (.live 1 .empty)) (.row [])
      (withScreen { screen0 with step := some (.request (.live 1 .empty)) } part0)
    p.running = true ∧ p.formatter.forming = some (.terminal 0 (.draw 15), .row []) ∧
      (p.terminal 0).step = some (.request (.draw 15)) ∧
      q.formatter.forming = some (.terminal 0 (.live 1 .empty), .row []) ∧
      (q.terminal 0).step = some (.request (.live 1 .empty)) ∧ (q.terminal 0).rows[1]? = some row0 := by decide

/-- PanelWriteLatches. -/
theorem witness_PanelWriteLatches :
    part0.board.op = .writing 0 .queue [] ∧ part0.board.positions[0]? = some place0 ∧
      part0.board.blankPending = false ∧ part0.board.cursor = none ∧ part0.board.dirty = [] := by decide

/-- FlashExpiryMarks: unprotected and protected, absorbed at the cursor, queued already, and below the cursor. -/
theorem witness_FlashExpiryMarks :
    part0.running = true ∧ part0.board.positions[0]? = some place0 ∧ place0.flash = true ∧ part0.board.op ≠ .idle ∧
      (part0.board.zone place0.zone).isProtected = false ∧ part0.board.cursor = none ∧ 0 ∉ part0.board.dirty ∧
      (({ part0.board with zones := part0.board.zones.set 1 { Zone.reset with held := true } } : Board).zone
        place0.zone).isProtected = true ∧
      (∃ c, ({ part0.board with cursor := some 0 } : Board).cursor = some c ∧ c ≤ 0) := by
  exact ⟨by decide, by decide, by decide, by decide, by decide, by decide, by decide, by decide, 0, rfl, le_refl 0⟩

/-- AdvanceMovesCrawl, the crawl: the last character of the text, with and without a suspension. -/
theorem witness_AdvanceMovesCrawl_character :
    let e : Entry := ⟨0, .onRibbon, .notice [65], some [.ch 65]⟩
    let r : Ribbon := { part0.ribbon with routine := [e], crawl := .printing 0 }
    part0.running = true ∧ r.advance = some 8 ∧ r.crawl = .printing 0 ∧ r.onRibbon = some (.routine, e) ∧
      e.text = some [.ch 65] ∧ 0 < [Glyph.ch 65].length ∧ r.suspensionPending = false ∧
      ({ r with suspensionPending := true } : Ribbon).suspensionPending = true := by decide

/-- AdvanceMovesCrawl, the end of an entry. -/
theorem witness_AdvanceMovesCrawl_end :
    let e : Entry := ⟨0, .onRibbon, .notice [65], some [.ch 65]⟩
    let r : Ribbon := { part0.ribbon with free := [1], routine := [e], crawl := .separating 1 false }
    part0.running = true ∧ r.advance = some 8 ∧ r.suspensionPending = false ∧ r.crawl = .separating 1 false ∧
      r.urgent = [] ∧ r.routine = [e] ∧ e.status = .onRibbon := by decide

/-- CandidateTakesSlot: 33 slots free, and 32. -/
theorem witness_CandidateTakesSlot :
    let t : Nat → Tape := fun n => ⟨{ Ribbon.reset with free := List.range n, crawl := .awaitingText }, 0⟩
    (t 33).rib.youngestWaiting abc = none ∧ (t 33).rib.crawl ≠ .idle ∧
      (t 33).rib.free = 0 :: (List.range 33).tail ∧ 32 ≤ (List.range 33).tail.length ∧ (t 32).rib.free.length ≤ 32 := by
  decide

/-- MergesFold: level 3 with an equal price, and with another one; the reserve; 254 and 255 merges. -/
theorem witness_MergesFold :
    let x : SaleEntry := ⟨abc, 3032, 500, 38465, 254⟩
    let e : Entry := ⟨0, .waiting, .sale x, none⟩
    let t : Nat → Tape := fun n => ⟨{ Ribbon.reset with
      free := (List.range n).map (· + 1), routine := [e, ⟨600, .waiting, .current, none⟩], level := 3
      crawl := .awaitingText }, 0⟩
    (t 33).rib.routine = [] ++ e :: [⟨600, .waiting, .current, none⟩] ∧ e.status = .waiting ∧ x.symbol = abcSale.symbol ∧
      (∀ y ∈ [(⟨600, .waiting, .current, none⟩ : Entry)], ∀ z, y.content ≠ .sale z) ∧
      (x.merged < 255 ∧ (t 33).rib.level = 3 ∧ x.price = abcSale.price) ∧
      (3033 ≠ x.price ∧ ¬ (t 33).rib.free.length ≤ 32 ∧ (t 33).rib.crawl ≠ .idle ∧
        (t 33).rib.free = 1 :: ((List.range 33).map (· + 1)).tail ∧ 32 ≤ ((List.range 33).map (· + 1)).tail.length) ∧
      (t 32).rib.free.length ≤ 32 ∧ ¬ ({ x with merged := 255 } : SaleEntry).merged < 255 := by
  refine ⟨rfl, rfl, rfl, ?_, by decide⟩
  intro y hy z
  obtain rfl : y = _ := by simpa using hy
  simp

/-- MergesFold, the law of the pool: every slot but that of a WAITING SALE entry is free, and a reserve of 32 left. -/
theorem witness_MergesFold_law :
    ({ Ribbon.reset with
      free := List.range' 1 511, routine := [⟨0, .waiting, .sale ⟨abc, 3032, 500, 38465, 0⟩, none⟩] } : Ribbon).PoolLaw := by
  refine ⟨?_, by decide⟩
  have h : List.range Config.printSlots = 0 :: List.range' 1 511 := by
    rw [List.range_eq_range', show Config.printSlots = 511 + 1 from rfl, List.range'_succ]
  rw [h, Ribbon.slots, show Ribbon.urgent _ = [] from rfl, List.map_nil, List.append_nil]
  exact List.perm_append_singleton 0 (List.range' 1 511)

/-- LagAnnounced, the sample: the countdown at 2 and at 1, the clock UNSET, a lag at the threshold and below it, announced
before and not, a free slot and none. -/
theorem witness_LagAnnounced_sample :
    let r : Ribbon := { part0.ribbon with free := [5], countdown := 1 }
    let env : TapeEnv := ⟨some 38645, 4, 3⟩
    1 < ({ r with countdown := 2 } : Ribbon).countdown ∧ r.countdown ≤ 1 ∧ env.now = some 38645 ∧
      (⟨none, 4, 3⟩ : TapeEnv).now = none ∧ lagMinutes 38645 38465 = 3 ∧ env.lateThreshold ≤ lagMinutes 38645 38465 ∧
      lagMinutes 38645 38466 < env.lateThreshold ∧ r.announced = none ∧ r.announced ≠ some 3 ∧
      ({ r with announced := some 3 } : Ribbon).announced.isSome = true ∧ r.free = 5 :: [] ∧
      ({ r with free := [] } : Ribbon).free = [] := by decide

/-- LagAnnounced, the taking: a TEXT entry, a SUSPENDED SALE entry and a WAITING one at the head. -/
theorem witness_LagAnnounced_taking :
    let r : Entry → Ribbon := fun e => { part0.ribbon with routine := [e], countdown := 1 }
    let x : SaleEntry := ⟨abc, 3032, 500, 38465, 0⟩
    let a : Entry := ⟨0, .waiting, .current, none⟩
    let b : Entry := ⟨0, .suspended, .sale x, none⟩
    let c : Entry := ⟨0, .waiting, .sale x, none⟩
    (∀ e ∈ [a, b, c], (r e).head = some (.routine, e)) ∧ (∀ y, a.content ≠ .sale y) ∧ b.status = .suspended ∧
      c.content = .sale x ∧ c.status = .waiting ∧ (r c).countdown ≤ 1 ∧
      1 < ({ r c with countdown := 2 } : Ribbon).countdown := by
  refine ⟨by decide, ?_, by decide⟩
  intro y h
  cases h

/-- RunsAndHighlightsEnd, a run: a drawing with a row left, and a LIVE terminal with nothing to do. -/
theorem witness_RunsAndHighlightsEnd_run :
    let x : Terminal := { screen0 with state := .drawing, step := some (.run (.draw 0) []) }
    part0.running = true ∧ x.redrawOwed = false ∧ x.commandOwed = false ∧ x.messageOwed = false ∧
      x.detailOwed = none ∧ x.step = some (.run (.draw 0) []) ∧ x.state = .drawing ∧ 0 + 1 < x.rows.length ∧
      screen0.step = some (.run .command [.lf]) ∧ screen0.state = .live ∧ ∀ r ∈ screen0.rows, r.pending = false := by
  decide

/-- RunsAndHighlightsEnd, a highlight. -/
theorem witness_RunsAndHighlightsEnd_highlight :
    part0.running = true ∧ (part0.terminal 0).rows[1]? = some row0 ∧ row0.highlight = true ∧
      (part0.terminal 0).step.isSome = true := by decide

/-- KeysEditLine: the ends of the letters and digits, a line of 15 and of 16 characters, an UNUSED terminal. -/
theorem witness_KeysEditLine :
    part0.running = true ∧ (part0.terminal 1).state = .unused ∧ (part0.terminal 0).state ≠ .unused ∧
      (part0.terminal 0).step.isSome = true ∧ (part0.terminal 0).shows = .keys ∧
      (part0.terminal 0).overflow = false ∧ (90 : Byte).toNat ≤ 90 ∧ 97 ≤ (97 : Byte).toNat ∧
      (List.replicate 15 (65 : Byte)).length < 16 ∧ ¬ (List.replicate 16 (65 : Byte)).length < 16 ∧
      ({ screen0 with keyLine := [65, 66] } : Terminal).keyLine = [65] ++ [66] := by decide

/-- ReturnActs, a selection: pages 1, 9, 10 and 32 spelled, with spaces; the watch list; an overflowed line. -/
theorem witness_ReturnActs_select :
    part0.running = true ∧ (part0.terminal 0).state ≠ .unused ∧ (part0.terminal 0).step.isSome = true ∧
      (part0.terminal 0).overflow = false ∧
      ({ screen0 with keyLine := [80, 32, 51, 50] } : Terminal).keyLine =
        80 :: (List.replicate 1 32 ++ [BitVec.ofNat 8 (48 + 32 / 10), BitVec.ofNat 8 (48 + 32 % 10)]) ∧
      ({ screen0 with keyLine := [80, 57] } : Terminal).keyLine = 80 :: (List.replicate 0 32 ++ [BitVec.ofNat 8 (48 + 9)]) ∧
      ({ screen0 with keyLine := [87] } : Terminal).keyLine = [87] ∧
      ({ screen0 with overflow := true } : Terminal).overflow = true := by decide

/-- ReturnActs, the watch list: lines of one letter and of five. -/
theorem witness_ReturnActs_watch :
    part0.running = true ∧ (part0.terminal 0).state ≠ .unused ∧ (part0.terminal 0).step.isSome = true ∧
      (part0.terminal 0).overflow = false ∧
      (∀ l ∈ [[65], [65, 66, 67, 68, (90 : Byte)]], 1 ≤ l.length ∧ l.length ≤ 5 ∧
        ∀ b ∈ l, 65 ≤ b.toNat ∧ b.toNat ≤ 90) ∧
      ({ screen0 with keyLine := [43, 65] } : Terminal).keyLine = 43 :: [65] ∧
      ({ screen0 with keyLine := [45, 65, 66, 67] } : Terminal).keyLine = 45 :: [65, 66, 67] := by decide

/-- ReturnActs, a detail and an unknown line. -/
theorem witness_ReturnActs_detail :
    part0.running = true ∧ (part0.terminal 0).state ≠ .unused ∧ (part0.terminal 0).step.isSome = true ∧
      (part0.terminal 0).overflow = false ∧
      ({ screen0 with keyLine := [63, 65, 66, 67] } : Terminal).keyLine = 63 :: [65, 66, 67] ∧
      (65 : Byte) ≠ 32 ∧ (65 : Byte) ≠ 87 ∧ ({ screen0 with keyLine := [65] } : Terminal).keyLine = [65] := by decide

/-- KeysReachOneTerminal. -/
theorem witness_KeysReachOneTerminal :
    Instr.keyOf 0 (.keyCharacter 0 65 false) = true ∧ ∃ t, exec (.keyCharacter 0 65 false) (after id) = .next t :=
  ⟨by decide, _, rfl⟩

/-- ReadyCommandsTaken, an entry. -/
theorem witness_ReadyCommandsTaken_entry :
    part0.console.port = .ready ∧ (Instr.hold, ConsoleCommand.hold) ∈ bodyCommands ∧
      (withPort (.loading .hold none []) part0).console.port = .loading .hold none [] ∧
      (withPort (.loading .readRecord (some 5) []) part0).console.port = .loading .readRecord (some 5) [] ∧
      ([] : List Byte).length + 1 < 5 := by decide

/-- CommandsByStatus: each status state, and the codes 0, 14 and 255. -/
theorem witness_CommandsByStatus :
    (withPort (.loading .hold none []) part0).console.port = .loading .hold none [] ∧
      (withPort (.busy 0) part0).console.port = .busy 0 ∧ (withPort .aborted part0).console.port = .aborted ∧
      State.reset.part.console.port = .readingImage ∧ part0.console.port = .ready ∧
      (0 : Byte) = 0 ∧ 13 < (14 : Byte).toNat ∧ 13 < (255 : Byte).toNat ∧ Instr.repaint ∈ commandWrites ∧
      (Instr.hold, ConsoleCommand.hold) ∈ bodyCommands ∧
      (withPort (.loading .readRecord (some 5) []) part0).console.port = .loading .readRecord (some 5) [] ∧
      ([] : List Byte).length + 1 < 5 := by decide

/-- ReadyCommandsTaken, the others: a write in flight, and a blank under way or pending. -/
theorem witness_ReadyCommandsTaken_ready :
    part0.console.port = .ready ∧ part0.board.op ≠ .idle ∧ (∀ k, part0.board.op ≠ .blanking k) ∧
      part0.board.blankPending = false ∧ part0.board.positions ≠ [] ∧
      (∃ k, ({ part0.board with op := .blanking 0 } : Board).op = .blanking k) ∧
      ({ part0.board with blankPending := true } : Board).blankPending = true := by
  refine ⟨by decide, by decide, ?_, by decide, by decide, ⟨0, rfl⟩, by decide⟩
  intro k h
  cases h

/-- WarmRestartKeeps: in READY and in BUSY; slots and a listed record, with the day set, with it unset and listen-only;
with a frame being sent and with none; and nothing to recall. -/
theorem witness_WarmRestartKeeps :
    let p := withRecalls { Recall.reset with list := [1], slots := [⟨0, 2, .waiting⟩] } part0
    p.console.port = .ready ∧ (withPort (.busy 7) part0).console.port = .busy 7 ∧
      p.recalls.slots.map Slot.record ++ p.recalls.list = 0 :: [1] ∧ p.clock.session.isSome = true ∧
      p.line.listenOnly = false ∧ p.line.current = none ∧ (withLine busyLine p).line.current.isSome = true ∧
      (withClock Clock.reset p).clock.session = none ∧
      (withLine { busyLine with listenOnly := true } p).line.listenOnly = true ∧
      part0.recalls.slots.map Slot.record ++ part0.recalls.list = [] := by decide

/-- WarmRestartBegins: entries ON RIBBON, SUSPENDED and WAITING, and none; the boards idle, forming, writing and blanking;
position 0 in a zone that is not HELD; the clock UNSET. -/
theorem witness_WarmRestartBegins :
    let e : EntryStatus → Nat → Entry := fun st n => ⟨n, st, .notice [65], none⟩
    part0.console.port = .ready ∧ (withPort (.busy 7) part0).console.port = .busy 7 ∧
      restartOrder [e .waiting 1, e .suspended 2, e .waiting 3] = [2, 1, 3] ∧ restartOrder [e .onRibbon 4] = [4] ∧
      restartOrder part0.ribbon.urgent ++ restartOrder part0.ribbon.routine = [] ∧
      part0.board.op = .writing 0 .queue [] ∧ part0.board.positions[0]? = some place0 ∧
      (part0.board.zone place0.zone).held = false ∧
      ({ part0.board with op := .blanking 127 } : Board).op = .blanking 127 ∧
      ({ part0.board with op := .forming 0 .cursor } : Board).op = .forming 0 .cursor ∧ Board.reset.op = .idle ∧
      (withClock Clock.reset part0).clock.time = none := by decide

/-- SaleEntryJudged: the entry of 9.8.1, for every check by its own state. -/
theorem witness_SaleEntryJudged :
    let buf := abc.bytes ++ toBytes 3 3032 ++ [0, 1]
    let p := withLine busyLine (withPort (.loading .enterSale (some 11) buf) part0)
    p.console.port = .loading .enterSale (some 11) buf ∧ buf ++ [0xF4] = abc.bytes ++ toBytes 3 3032 ++ toBytes 3 500 ∧
      p.lookup abc = some 0 ∧ p.records[0]? = some abcRecord ∧ abcRecord.symbol = abc ∧ p.recalls.list = [] ∧
      (p.line.listenOnly = false ∧ abcRecord.home = some p.settings.station ∧ abcRecord.shown.doubtful = false) ∧
      abcRecord.shown.state = .trading ∧ p.clock.session = some ⟨17, .opened⟩ ∧ p.clock.time = some ⟨2, 38465⟩ ∧
      3032 % (64 / abcRecord.priceStep) = 0 ∧ 3028 % (64 / abcRecord.priceStep) ≠ 0 ∧
      p.line.queue.length < 16 ∧ p.line.current.isSome = true := by decide +kernel

/-- QuoteAndStateEntriesJudged, ENTER QUOTE: spare bits and a length that disagrees; a symbol not held; both sides at the
limits of their ranges and past them, a bid above the ask, and the frame of a lawful entry. -/
theorem witness_QuoteAndStateEntriesJudged_quote :
    let bid : Side := ⟨3024, 9999⟩
    let ask : Side := ⟨3032, 1⟩
    let bytes := abc.bytes ++ [3] ++ writeOption writeSide (some bid) ++ writeOption writeSide (some ask)
    let p := withLine busyLine (withPort (.loading .enterQuote (some 16) bytes.dropLast) part0)
    (bytes.length = 16 ∧ bytes.dropLast ++ [1] = bytes ∧ bytes.dropLast.length + 1 = 16 ∧
      p.console.port = .loading .enterQuote (some 16) bytes.dropLast ∧ (3 : Byte).getLsbD 0 = (some bid).isSome ∧
      (3 : Byte).getLsbD 1 = (some ask).isSome ∧ (3 : Byte).toNat < 4 ∧ p.line.queue.length < 16 ∧
      p.line.current.isSome = true) ∧
      (4 ≤ (4 : Byte).toNat ∧ (abc.bytes ++ [4])[5]? = some 4 ∧ (abc.bytes ++ [1])[5]? = some 1 ∧
        6 ≠ 6 + (if (1 : Byte).getLsbD 0 then 5 else 0) + (if (1 : Byte).getLsbD 1 then 5 else 0)) ∧
      p.lookup abc = some 0 ∧ p.records[0]? = some abcRecord ∧ abcRecord.symbol = abc ∧ p.recalls.list = [] ∧
      p.lookup (.ofList [81]) = none ∧ p.line.listenOnly = false ∧ p.day = some 17 ∧
      abcRecord.home = some p.settings.station ∧ abcRecord.shown.doubtful = false ∧
      (639999 < 640000 ∧ 3024 % (64 / abcRecord.priceStep) = 0 ∧ 3025 % (64 / abcRecord.priceStep) ≠ 0) ∧
      (9999 < 10000 ∧ ask.price < 3040 ∧ bid.price < ask.price) := by decide

/-- QuoteAndStateEntriesJudged, ENTER STATE: the codes 0, 1, 3 and 4. -/
theorem witness_QuoteAndStateEntriesJudged_state :
    let p := withLine busyLine (withPort (.loading .enterState (some 6) abc.bytes) part0)
    p.console.port = .loading .enterState (some 6) abc.bytes ∧ abc.bytes.length + 1 = 6 ∧
      (1 : Byte) ≠ 0 ∧ ¬ 3 < (3 : Byte).toNat ∧ 3 < (4 : Byte).toNat ∧ p.lookup abc = some 0 ∧
      p.records[0]? = some abcRecord ∧ p.recalls.list = [] ∧ p.day = some 17 ∧ p.line.queue.length < 16 ∧
      p.line.current.isSome = true := by decide

/-- OtherEntriesJudged, ENTER NOTICE: the urgencies 1 and 2, texts of 1 and of 64 characters, listen-only, and a full
queue. -/
theorem witness_OtherEntriesJudged_notice :
    let l : Line := { busyLine with queue := (List.range 16).map (fun n => ⟨n, .hold 4 0⟩) }
    let buf : Byte → List Byte := fun u => u :: List.replicate 63 65
    part0.recalls.list = [] ∧ (withPort (.loading .enterNotice (some 65) (buf 1)) part0).console.port
        = .loading .enterNotice (some 65) (buf 1) ∧
      (buf 1).length + 1 = 65 ∧ buf 1 ++ [65] = 1 :: List.replicate 64 65 ∧ (1 : Byte).toNat ≤ 1 ∧ 1 < (2 : Byte).toNat ∧
      (List.replicate 64 (65 : Byte)).length ≤ 64 ∧ 64 < (List.replicate 65 (65 : Byte)).length ∧
      ({ busyLine with listenOnly := true } : Line).listenOnly = true ∧ busyLine.listenOnly = false ∧
      16 ≤ l.queue.length ∧ busyLine.queue.length < 16 ∧ busyLine.current.isSome = true := by decide

/-- OtherEntriesJudged, HOLD and RELEASE: the groups 15 and 16, a group with no zone, with a zone that is not FIXED, and
with FIXED zones alone. -/
theorem witness_OtherEntriesJudged_hold :
    let f := withBoard { part0.board with
      zones := part0.board.zones.set 2 { Zone.reset with group := some 4, fixed := true } } part0
    (withPort (.loading .hold (some 1) []) part0).console.port = .loading .hold (some 1) [] ∧
      (withPort (.loading .release (some 1) []) part0).console.port = .loading .release (some 1) [] ∧
      (15 : Byte).toNat ≤ 15 ∧ 15 < (16 : Byte).toNat ∧ (∀ z, (part0.board.zone z).group ≠ some 15) ∧
      ((part0.board.zone 2).group = some 4 ∧ (part0.board.zone 2).fixed = false) ∧
      (∃ z, (f.board.zone z).group = some 4) ∧
      ∀ z, (f.board.zone z).group = some 4 → (f.board.zone z).fixed = true := by decide

/-- OtherEntriesJudged, READ RECORD: a symbol that is held and one that is not. -/
theorem witness_OtherEntriesJudged_read :
    (withPort (.loading .readRecord (some 5) [65, 66, 67, 32]) part0).console.port
        = .loading .readRecord (some 5) [65, 66, 67, 32] ∧
      [65, 66, 67, 32] ++ [(32 : Byte)] = abc.bytes ∧ part0.lookup abc = some 0 ∧ part0.records[0]? = some abcRecord ∧
      [65, 66, 67, 32] ++ [(90 : Byte)] = (Symbol.ofList [65, 66, 67, 32, 90]).bytes ∧
      part0.lookup (.ofList [65, 66, 67, 32, 90]) = none := by decide

/-- OtherEntriesJudged, SET CLOCK: 23:59:59 of weekday 7 is in range and weekday 8 is not. -/
theorem witness_OtherEntriesJudged_clock :
    part0.recalls.list = [] ∧
      (withPort (.loading .setClock (some 4) [7, 23, 59]) part0).console.port = .loading .setClock (some 4) [7, 23, 59] ∧
      (withPort (.loading .setClock (some 5) [7, 23, 59, 59]) part0).console.port
        = .loading .setClock (some 5) [7, 23, 59, 59] ∧
      (1 ≤ (7 : Byte).toNat ∧ (7 : Byte).toNat ≤ 7) ∧ (23 : Byte).toNat ≤ 23 ∧ (59 : Byte).toNat ≤ 59 ∧
      ¬ (8 : Byte).toNat ≤ 7 := by decide

/-- ReadsAndMask, DATA: the last byte of a copy, and no copy. -/
theorem witness_ReadsAndMask_data :
    part0.console.port ≠ .readingImage ∧ part0.console.port ≠ .configFault ∧ part0.console.readBuffer = none ∧
      ({ part0.console with readBuffer := some (recordCopy abcRecord), readPointer := 47 } : Console).readBuffer
        = some (recordCopy abcRecord) ∧
      ∃ b, (recordCopy abcRecord)[47]? = some b := by
  refine ⟨by decide, by decide, by decide, rfl, ?_⟩
  exact ⟨_, rfl⟩

/-- ReadsAndMask, FLAGS and MASK. -/
theorem witness_ReadsAndMask_flags :
    part0.console.port ≠ .readingImage ∧ part0.console.port ≠ .configFault ∧ part0.console.BitLaw ∧
      ({ part0.console with mask := 0x20 } : Console).mask &&& EventFlag.printsOmitted.bit ≠ 0 := by
  unfold Console.BitLaw
  decide

/-- FractionReduced: the largest price, whose fraction is 63/64, and one whose fraction is 7/8. -/
theorem witness_FractionReduced :
    639999 ≤ 639999 ∧ 0 < sixtyFourths 639999 ∧ 8 < (reduced 639999).2 ∧ 639992 ≤ 639999 ∧ 0 < sixtyFourths 639992 ∧
      (reduced 639992).2 ≤ 8 := by decide

/-- FieldsFillTheirWidth: the layout of 2.12. -/
theorem witness_FieldsFillTheirWidth :
    639999 ≤ 639999 ∧ hasCompact 639960 = true ∧ 1 ≤ 1 ∧
      ∀ f ∈ [(FieldKind.symbol, 5), (.last, 6), (.change, 5), (.volume, 6), (.mark, 1), (.arrow, 1)],
        1 ≤ f.2 ∧ (f.1 = .mark ∨ f.1 = .arrow → f.2 = 1) := by decide

/-- LagOfPrint: each clause, half a day on its boundary. -/
theorem witness_LagOfPrint :
    86399 ≤ 86399 ∧ (43200 - 0 ≤ 43200 ∧ 0 ≤ 43200) ∧ 43200 < 43201 - 0 ∧ (0 < 43200 ∧ 0 + 86400 - 43200 ≤ 43200) ∧
      (0 < 43199 ∧ 43200 < 0 + 86400 - 43199) ∧ part0.clock.time = some ⟨2, 38465⟩ ∧
      ({ part0.ribbon with countdown := 1 } : Ribbon).countdown = 1 ∧
      (0 < 43200 ∧ 43200 - 0 ≤ 43200) ∧ (0 < 43199 ∧ 43199 - 0 < 43200) := by decide

end Sys2Proof.Tests
end

section
/-! SUPPORT. The shape that R2 gives a record, and what each change of displayed fields does to it. -/

namespace Sys2Proof.Machine

/-! ### The shape of the displayed fields (R2, 0.5) -/

/-- The four prices of the day are absent together, or present together in order. -/
theorem dayPricesOk_iff (o h l x : Option Nat) :
    dayPricesOk o h l x = true ↔ (o = none ∧ h = none ∧ l = none ∧ x = none) ∨
      ∃ o' h' l' x', o = some o' ∧ h = some h' ∧ l = some l' ∧ x = some x' ∧
        l' ≤ o' ∧ o' ≤ h' ∧ l' ≤ x' ∧ x' ≤ h' := by
  cases o <;> cases h <;> cases l <;> cases x <;> simp [dayPricesOk, and_assoc]

/-- R13: the counts stop at their limits, and a volume that reaches its limit is saturated. -/
theorem Displayed.count_shape (volume : Nat) (d : Displayed) (h : d.Shape) : (d.count volume).Shape := by
  obtain ⟨hday, hpc, hhigh, hcross, hbid, hask, -, hsat, -⟩ := h
  refine ⟨hday, hpc, hhigh, hcross, hbid, hask, Nat.min_le_right _ _, ?_, Nat.min_le_right _ _⟩
  intro hs
  have hfull : Config.maxDayVolume ≤ d.volume + volume := by
    rcases Bool.or_eq_true_iff.mp hs with hs | hs
    · exact (hsat hs).ge.trans (Nat.le_add_right _ _)
    · exact of_decide_eq_true hs
  exact Nat.min_eq_right hfull

/-- R14: a price in range opens the day, or widens high and low around itself. -/
theorem Displayed.trade_shape (price : Nat) (d : Displayed) (hp : price ≤ Config.maxPrice) (h : d.Shape) :
    (d.trade price).Shape := by
  obtain ⟨hday, hpc, hhigh, hcross, hbid, hask, hvol, hsat, hcount⟩ := h
  rcases (dayPricesOk_iff _ _ _ _).mp hday with ⟨-, -, -, hl⟩ | ⟨o, h, l, x, ho, hh, hlo, hl, h1, h2, h3, h4⟩
  · simp only [Displayed.trade, hl]
    exact ⟨by simp [dayPricesOk], hpc, by simpa [priceOk] using hp, hcross, hbid, hask, hvol, hsat, hcount⟩
  · have hmax : h ≤ Config.maxPrice := by simpa [priceOk, hh] using hhigh
    simp only [Displayed.trade, hl, hh, hlo, Option.map_some]
    refine ⟨?_, hpc, ?_, hcross, hbid, hask, hvol, hsat, hcount⟩
    · simp only [ho, dayPricesOk_iff, Option.some.injEq]
      exact .inr ⟨o, max price h, min price l, price, rfl, rfl, rfl, rfl, by omega, by omega, by omega, by omega⟩
    · simpa [priceOk] using ⟨hp, hmax⟩

/-- R13 to R15: a SALE in range keeps the shape, which sees neither tick nor state. -/
theorem Displayed.sale_shape (price volume : Nat) (d : Displayed) (hp : price ≤ Config.maxPrice) (h : d.Shape) :
    (d.sale price volume).Shape := by
  have hc := d.count_shape volume h
  unfold Displayed.sale
  simp only
  split
  · exact hc
  · exact (d.count volume).trade_shape price hp hc

/-- R17: a STATE changes the state alone. -/
theorem Displayed.instrState_eq (code : Nat) (d : Displayed) :
    ∃ st, d.instrState code = { d with state := st } := by
  unfold Displayed.instrState
  split <;> exact ⟨_, rfl⟩

/-- R8: well-formed contents of a REPLY have the shape, once the sale count fits its two bytes. -/
theorem ReplyContents.displayed_shape (c : ReplyContents) (hw : c.wellFormed = true)
    (hcount : c.saleCount ≤ Config.maxSaleCount) : c.displayed.Shape := by
  simp only [ReplyContents.wellFormed, Bool.and_eq_true, Bool.or_eq_true, Bool.not_eq_true', decide_eq_true_eq,
    beq_iff_eq] at hw
  obtain ⟨⟨⟨⟨⟨⟨⟨⟨⟨⟨⟨⟨⟨⟨-, -⟩, hpc⟩, -⟩, hhigh⟩, -⟩, -⟩, -⟩, -⟩, hvol⟩, hsat⟩, hbid⟩, hask⟩, hday⟩, hcross⟩ := hw
  have hsaturated : c.saturated = true → c.volume = Config.maxDayVolume := fun hs => by simpa [hs] using hsat
  exact ⟨hday, hpc, hhigh, hcross, hbid, hask, hvol, hsaturated, hcount⟩

/-- The sale count of a REPLY is in range, as that of every frame read is; the other kinds carry none. -/
def Contents.CountInRange : Contents → Prop
  | .reply c => c.saleCount ≤ Config.maxSaleCount
  | .sale _ | .quote _ | .state _ => True

/-- R11, R19: the application of well-formed contents of any kind keeps the shape. -/
theorem Contents.apply_shape (c : Contents) (d : Displayed) (hw : c.wellFormed = true) (hc : c.CountInRange)
    (h : d.Shape) : (c.apply d).Shape := by
  cases c with
  | sale x =>
    have hp : x.price ≤ Config.maxPrice := by
      simp only [Contents.wellFormed, SaleContents.wellFormed, Bool.and_eq_true, decide_eq_true_eq] at hw
      obtain ⟨⟨⟨⟨-, hp⟩, -⟩, -⟩, -⟩ := hw
      exact hp
    exact d.sale_shape x.price x.volume hp h
  | quote x =>
    simp only [Contents.wellFormed, QuoteContents.wellFormed, Bool.and_eq_true, Bool.not_eq_true'] at hw
    obtain ⟨⟨⟨⟨-, hbid⟩, hask⟩, hcross⟩, -⟩ := hw
    obtain ⟨hday, hpc, hhigh, -, -, -, hvol, hsat, hcount⟩ := h
    exact ⟨hday, hpc, hhigh, hcross, hbid, hask, hvol, hsat, hcount⟩
  | state x =>
    obtain ⟨st, hst⟩ := d.instrState_eq x.code
    simp only [Contents.apply, hst]
    exact h
  | reply x => exact x.displayed_shape hw hc

/-! ### The shape of a record (R2) -/

theorem Record.fresh_shape (s : Symbol) (home : Option Nat) (step : Nat) (ex : Bool) :
    (Record.fresh s home step ex).Shape := by
  simp [Record.Shape, Displayed.Shape, Record.fresh, Displayed.fresh, dayPricesOk, priceOk, crossed, sideOk]

/-- The shape sees no recall state. -/
theorem Record.shape_setRecallState (r : Record) (x : RecallState) :
    ({ r with recallState := x } : Record).Shape ↔ r.Shape := Iff.rfl

/-- The shape sees no last printed whole. -/
theorem Record.shape_setLastWhole (r : Record) (n : Option Nat) :
    ({ r with lastWhole := n } : Record).Shape ↔ r.Shape := Iff.rfl

/-- R12: doubt keeps the shape. -/
theorem Record.Shape.doubt {r : Record} (h : r.Shape) :
    ({ r with shown := { r.shown with doubtful := true } } : Record).Shape := by
  obtain ⟨hd, hn⟩ := h
  refine ⟨hd, fun hh => ?_⟩
  obtain ⟨hr, hday, -⟩ := hn hh
  exact ⟨hr, hday, rfl⟩

/-- R11, R19: an application makes the record HEARD and keeps the shape. -/
theorem Contents.applyTo_shape (c : Contents) (r : Record) (hw : c.wellFormed = true) (hc : c.CountInRange)
    (h : r.Shape) : (c.applyTo r).Shape :=
  ⟨c.apply_shape r.shown hw hc h.1, nofun⟩

/-- R21: the OPEN rollover makes the prices absent together; the previous close takes a last price in range. -/
theorem Record.openRollover_shape (d : Day) (r : Record) (h : r.Shape) : (r.openRollover d).Shape := by
  obtain ⟨⟨hday, hpc, hhigh, -⟩, hn⟩ := h
  have hlast : priceOk r.shown.last = true := by
    rcases (dayPricesOk_iff _ _ _ _).mp hday with ⟨-, -, -, hl⟩ | ⟨o, h, l, x, -, hh, -, hl, -, -, -, hxh⟩
    · rw [hl]; rfl
    · simp only [hh, hl, priceOk, decide_eq_true_eq] at hhigh ⊢
      exact hxh.trans hhigh
  refine ⟨⟨rfl, ?_, rfl, rfl, rfl, rfl, Nat.zero_le _, nofun, Nat.zero_le _⟩, ?_⟩
  · simp only [Record.openRollover]
    split
    · exact hlast
    · exact hpc
  · intro hh
    obtain ⟨hr, hd, hdoubt⟩ := hn hh
    have hh' : r.heard = false := hh
    exact ⟨hr, by simp [Record.openRollover, hh', hd], hdoubt⟩

/-- R22: the CLOSE rollover writes the state alone. -/
theorem Record.closeRollover_shape (r : Record) (h : r.Shape) : r.closeRollover.Shape := h

end Sys2Proof.Machine
end

section
/-! SUPPORT. What each shared operation does to the records: nothing, or recall states alone (R7). -/

namespace Sys2Proof.Machine

/-! ### Operations that leave every record as it was -/

section
variable (p : Part)

@[simp] theorem Part.request_records (r : Request) : (p.request r).records = p.records := by
  obtain ⟨f, rib, h, -⟩ := p.request_spec r
  rw [h]

@[simp] theorem Part.endFormation_records : p.endFormation.records = p.records := by
  obtain ⟨f, rib, h, -⟩ := p.endFormation_spec
  rw [h]

@[simp] theorem Part.boardRequest_records : p.boardRequest.records = p.records := by
  obtain ⟨f, h⟩ := p.boardRequest_spec
  rw [h]

@[simp] theorem Part.boardKick_records : p.boardKick.records = p.records := by
  obtain ⟨f, b, h, -⟩ := p.boardKick_spec
  rw [h]

@[simp] theorem Part.termKick_records (k : TerminalId) : (p.termKick k).records = p.records := by
  obtain ⟨f, x, h, -⟩ := p.termKick_spec k
  rw [h]; rfl

@[simp] theorem Part.ribbonRequest_records : p.ribbonRequest.records = p.records := by
  obtain ⟨f, rib, h, -⟩ := p.ribbonRequest_spec
  rw [h]

@[simp] theorem Part.onTape_records (g : TapeEnv → Tape → Tape) : (p.onTape g).records = p.records := by
  obtain ⟨f, rib, h, -⟩ := p.onTape_spec g
  rw [h]

@[simp] theorem Part.takeFrame_records : p.takeFrame.records = p.records := by
  obtain ⟨l, h, -⟩ := p.takeFrame_spec
  rw [h]

@[simp] theorem Part.dropReply_records (i : Nat) : (p.dropReply i).records = p.records := by
  obtain ⟨rs, q, h, -, -⟩ := p.dropReply_spec i
  rw [h]

@[simp] theorem Part.freeSlot_records (i : Nat) : (p.freeSlot i).records = p.records := by
  obtain ⟨q, h, -⟩ := p.freeSlot_spec i
  rw [h]

@[simp] theorem Part.markDependents_records (old : List Record) : (p.markDependents old).records = p.records := rfl

@[simp] theorem Part.adoptDay_records (d : Day) : (p.adoptDay d).records = p.records := by
  unfold Part.adoptDay
  split <;> rfl

@[simp] theorem Part.setClock_records (t : TimeOfDay) (day : Option Day) :
    (p.setClock t day).records = p.records := by
  unfold Part.setClock
  simp only
  split <;> rfl

@[simp] theorem Part.clockHeard_records (w h m s : Nat) : (p.clockHeard w h m s).records = p.records := by
  unfold Part.clockHeard
  split <;> rfl

@[simp] theorem Part.blankAtClose_records : p.blankAtClose.records = p.records := by
  unfold Part.blankAtClose
  split <;> rfl

@[simp] theorem Part.tapeCandidate_records (c : SaleContents) : (p.tapeCandidate c).records = p.records := by
  unfold Part.tapeCandidate
  split
  · exact p.onTape_records _
  · rfl

@[simp] theorem Part.noticeArrives_records (u : Nat) (text : List Byte) :
    (p.noticeArrives u text).records = p.records := by
  unfold Part.noticeArrives
  split
  · exact p.onTape_records _
  · rfl

@[simp] theorem Part.checkOrigin_records (origin : Nat) : (p.checkOrigin origin).records = p.records := by
  unfold Part.checkOrigin
  split <;> rfl

@[simp] theorem Part.warnIf_records (w : Bool) : (p.warnIf w).records = p.records := by
  unfold Part.warnIf
  split <;> rfl

@[simp] theorem Part.boardFormed_records : p.boardFormed.records = p.records := by
  unfold Part.boardFormed
  split
  · split <;> simp
  · rfl

@[simp] theorem Part.terminalFormed_records : p.terminalFormed.records = p.records := by
  unfold Part.terminalFormed
  split
  · split <;> simp
  · rfl

@[simp] theorem Part.panelWriteComplete_records : p.panelWriteComplete.records = p.records := by
  unfold Part.panelWriteComplete
  split <;> simp

@[simp] theorem Part.flashExpiry_records (k : Nat) : (p.flashExpiry k).records = p.records := by
  unfold Part.flashExpiry
  split
  · split <;> simp
  · rfl

@[simp] theorem Part.advanceExpiry_records (ready : Bool) : (p.advanceExpiry ready).records = p.records := by
  unfold Part.advanceExpiry
  split
  · rfl
  · split <;> simp

@[simp] theorem Part.runComplete_records (k : TerminalId) : (p.runComplete k).records = p.records := by
  unfold Part.runComplete
  split <;> simp

@[simp] theorem Part.highlightExpiry_records (k : TerminalId) (row : Nat) :
    (p.highlightExpiry k row).records = p.records := by
  unfold Part.highlightExpiry
  split
  · rfl
  · split
    · split <;> simp
    · rfl

@[simp] theorem Part.keyReceived_records (k : TerminalId) (b : Byte) (fault : Bool) :
    (p.keyReceived k b fault).records = p.records := by
  unfold Part.keyReceived
  split <;> simp

end

/-! ### Operations of the Recall Unit: recall states alone (Section 3) -/

theorem RecallOnly.of_eq {a b : List Record} (h : b = a) : RecallOnly a b := by
  rw [h]; exact .refl _

/-- A record of the new store is one of the old store with another recall state. -/
theorem RecallOnly.exists_old {old new : List Record} (h : RecallOnly old new) {r : Record} (hr : r ∈ new) :
    ∃ r₀ ∈ old, r = { r₀ with recallState := r.recallState } := by
  have hm : ({ r with recallState := .none } : Record) ∈ old.map fun r => { r with recallState := .none } := by
    rw [← h]; exact List.mem_map_of_mem hr
  obtain ⟨r₀, h₀, he⟩ := List.mem_map.mp hm
  refine ⟨r₀, h₀, ?_⟩
  cases r
  cases r₀
  simp only [Record.mk.injEq] at he ⊢
  tauto

section
variable (p : Part)

theorem Part.offer_recallOnly (b : TxBody) : RecallOnly p.records (p.offer b).1.records := by
  obtain ⟨u, rs, l, h, hr, -⟩ := p.offer_spec b
  rw [h]; exact hr

theorem Part.returnToHead_recallOnly (i : Nat) : RecallOnly p.records (p.returnToHead i).records := by
  obtain ⟨u, rs, h, hr⟩ := p.returnToHead_spec i
  rw [h]; exact hr

theorem Part.recallTest_recallOnly : RecallOnly p.records p.recallTest.records := by
  obtain ⟨u, rs, l, h, hr, -⟩ := p.recallTest_spec
  rw [h]; exact hr

theorem Part.settle_recallOnly : RecallOnly p.records p.settle.records := by
  obtain ⟨f, b, ts, u, rs, l, h, -, hr, -⟩ := p.settle_spec
  rw [h]; exact hr

theorem Part.paceExpiry_recallOnly : RecallOnly p.records p.paceExpiry.records := by
  unfold Part.paceExpiry
  split
  · exact Part.recallTest_recallOnly _
  · exact .refl _

theorem Part.resend_recallOnly (i : Nat) : RecallOnly p.records (p.resend i).records := by
  unfold Part.resend
  simp only
  split
  · exact Part.offer_recallOnly _ _
  · refine RecallOnly.trans ?_ (Part.returnToHead_recallOnly _ i)
    exact Part.offer_recallOnly _ (.recallFor i)

theorem Part.waitExpiry_recallOnly (i : Nat) : RecallOnly p.records (p.waitExpiry i).records := by
  have hfree (x : RecallState) : RecallOnly p.records ((p.freeSlot i).setRecallState i x).records := by
    simpa only [Part.freeSlot_records] using (p.freeSlot i).setRecallState_recallOnly i x
  unfold Part.waitExpiry
  split
  · split
    · exact .refl _
    · split
      · exact hfree .listed
      · split
        · exact (p.resend_recallOnly i).trans (Part.recallTest_recallOnly _)
        · exact (hfree .unanswered).trans (Part.recallTest_recallOnly _)
  · exact .refl _

theorem Part.suppress_recallOnly (i : Nat) (r : Record) : RecallOnly p.records (p.suppress i r).records := by
  unfold Part.suppress
  split
  · split
    · exact Part.setRecallState_recallOnly _ _ _
    · exact .refl _
  · split
    · split
      · split <;> exact .refl _
      · exact .refl _
    · exact .refl _
  · exact .refl _
  · exact .refl _

theorem Part.queueReply_recallOnly (i : Nat) : RecallOnly p.records (p.queueReply i).records := by
  unfold Part.queueReply
  simp only
  split <;> exact Part.offer_recallOnly _ _

theorem Part.holdoffExpiry_recallOnly (i : Nat) : RecallOnly p.records (p.holdoffExpiry i).records := by
  unfold Part.holdoffExpiry
  split
  · split
    · split
      · exact p.queueReply_recallOnly i
      · exact .refl _
    · exact .refl _
  · exact .refl _

theorem Part.answer_recallOnly (i : Nat) (r : Record) : RecallOnly p.records (p.answer i r).records := by
  unfold Part.answer
  split
  · simp only
    split
    · exact Part.holdoffExpiry_recallOnly _ _
    · exact .refl _
  · exact .refl _

theorem Part.recallHeard_recallOnly (s : Symbol) (d : Day) : RecallOnly p.records (p.recallHeard s d).records := by
  unfold Part.recallHeard
  split
  · exact .refl _
  · split
    · exact .refl _
    · split
      · exact (p.suppress_recallOnly _ _).trans (Part.answer_recallOnly _ _ _)
      · exact .refl _

/-- R62: the slots' records go back to the list, one recall state written after another. -/
theorem Part.recallRestart_recallOnly : RecallOnly p.records p.recallRestart.records := by
  have hfold (l : List Nat) (q : Part) :
      RecallOnly q.records (l.foldl (fun q i => q.setRecallState i .listed) q).records := by
    induction l generalizing q with
    | nil => exact .refl _
    | cons i l ih => exact (q.setRecallState_recallOnly i .listed).trans (ih _)
  exact hfold _ p

/-! ### Console, warm restart and transmitter: recall states alone -/

theorem Part.offerOwn_recallOnly (b : TxBody) : RecallOnly p.records (p.offerOwn b).records := by
  unfold Part.offerOwn
  split
  · exact .refl _
  · exact p.offer_recallOnly b

theorem Part.offerEntry_recallOnly (b : TxBody) : RecallOnly p.records (p.offerEntry b).records := by
  unfold Part.offerEntry
  simp only
  split
  · exact (p.offer_recallOnly b).trans ((p.offer b).1.setPort _).recallTest_recallOnly
  · exact p.offer_recallOnly b

theorem Part.warmRestart_recallOnly : RecallOnly p.records p.warmRestart.records := by
  unfold Part.warmRestart
  simp only
  refine RecallOnly.trans ?_ (Part.settle_recallOnly _)
  simpa using p.formatterRestart.recallRestart_recallOnly

theorem Part.judgeSale_recallOnly (b : List Byte) : RecallOnly p.records (p.judgeSale b).records := by
  unfold Part.judgeSale
  simp only
  split
  · exact .refl _
  · split
    · exact .refl _
    · split
      · exact .refl _
      · split
        · exact .refl _
        · exact p.offerEntry_recallOnly _

theorem Part.judgeQuote_recallOnly (b : List Byte) : RecallOnly p.records (p.judgeQuote b).records := by
  unfold Part.judgeQuote
  simp only
  split
  · exact .refl _
  · split
    · exact .refl _
    · split
      · exact .refl _
      · split
        · exact .refl _
        · split
          · exact .refl _
          · exact p.offerEntry_recallOnly _

theorem Part.judgeState_recallOnly (b : List Byte) : RecallOnly p.records (p.judgeState b).records := by
  unfold Part.judgeState
  simp only
  split
  · exact .refl _
  · split
    · exact .refl _
    · split
      · exact p.offerEntry_recallOnly _
      · exact .refl _

theorem Part.judgeNotice_recallOnly (b : List Byte) : RecallOnly p.records (p.judgeNotice b).records := by
  unfold Part.judgeNotice
  simp only
  split
  · exact .refl _
  · split
    · exact .refl _
    · exact p.offerEntry_recallOnly _

theorem Part.judgeHold_recallOnly (b : List Byte) : RecallOnly p.records (p.judgeHold b).records := by
  unfold Part.judgeHold
  simp only
  split
  · exact .refl _
  · split
    · exact .refl _
    · split
      · exact .refl _
      · exact p.offerEntry_recallOnly _

theorem Part.judgeRelease_recallOnly (b : List Byte) : RecallOnly p.records (p.judgeRelease b).records := by
  unfold Part.judgeRelease
  simp only
  split
  · exact .refl _
  · split
    · exact .refl _
    · exact p.offerEntry_recallOnly _

theorem Part.judgeReadRecord_records (b : List Byte) : (p.judgeReadRecord b).records = p.records := by
  unfold Part.judgeReadRecord
  split <;> rfl

theorem Part.judgeSetClock_recallOnly (b : List Byte) : RecallOnly p.records (p.judgeSetClock b).records := by
  unfold Part.judgeSetClock
  simp only
  split
  · refine RecallOnly.trans (.of_eq ?_) (Part.recallTest_recallOnly _)
    simp
  · exact .refl _

theorem Part.judgeBody_recallOnly (c : ConsoleCommand) (b : List Byte) :
    RecallOnly p.records (p.judgeBody c b).records := by
  cases c with
  | enterSale => exact p.judgeSale_recallOnly b
  | enterQuote => exact p.judgeQuote_recallOnly b
  | enterState => exact p.judgeState_recallOnly b
  | enterNotice => exact p.judgeNotice_recallOnly b
  | hold => exact p.judgeHold_recallOnly b
  | release => exact p.judgeRelease_recallOnly b
  | readRecord => exact .of_eq (p.judgeReadRecord_records b)
  | setClock => exact p.judgeSetClock_recallOnly b
  | clearStatus | abortClear | repaint | blank | warmRestart | unknown => exact .refl _

theorem Part.dataWrite_recallOnly (v : Byte) : RecallOnly p.records (p.dataWrite v).records := by
  unfold Part.dataWrite
  split
  · split <;> exact .refl _
  · split
    · exact .refl _
    · exact p.judgeBody_recallOnly _ _
  · exact .refl _

theorem Part.commandReady_recallOnly (c : ConsoleCommand) : RecallOnly p.records (p.commandReady c).records := by
  cases c with
  | warmRestart => exact p.warmRestart_recallOnly
  | repaint | blank => exact .of_eq (by simp [Part.commandReady])
  | enterSale | enterQuote | enterState | enterNotice | hold | release | readRecord | setClock | clearStatus
  | abortClear | unknown => exact .refl _

theorem Part.commandWrite_recallOnly (c : ConsoleCommand) : RecallOnly p.records (p.commandWrite c).records := by
  unfold Part.commandWrite
  split
  · exact p.commandReady_recallOnly c
  · exact .refl _
  · split
    · exact .refl _
    · exact p.warmRestart_recallOnly
    · exact .refl _
  · split <;> exact .refl _
  · exact .refl _
  · exact .refl _

end

end Sys2Proof.Machine
end

section
/-! SUPPORT. What the judgement of contents does to the record of their symbol (R6 to R19). -/

namespace Sys2Proof.Machine

/-! ### Doubt (R12, R45) -/

/-- R12: the record made doubtful: LISTED, unless its recall is OUTSTANDING. -/
def Record.doubted (r : Record) : Record :=
  { r with
    shown := { r.shown with doubtful := true }
    recallState := if r.recallState = .outstanding then .outstanding else .listed }

/-- R12: a recall of the record is pending already. -/
def Record.RecallPending (r : Record) : Prop :=
  r.recallState = .listed ∨ r.recallState = .outstanding

theorem modify_eq_set_of_getElem? {α : Type} {l : List α} {i : Nat} {a : α} (f : α → α) (h : l[i]? = some a) :
    l.modify i f = l.set i (f a) := by
  simp [List.modify_eq_set_getElem?, h]

theorem getElem?_set_of_getElem? {α : Type} {l : List α} {i : Nat} {a : α} (b : α) (h : l[i]? = some a) :
    (l.set i b)[i]? = some b := by
  simp [List.getElem?_set_self', h]

section
variable {p : Part} {i : Nat} {r : Record}

theorem Part.makeDoubtful_records (h : p.records[i]? = some r) :
    (p.makeDoubtful i).records = p.records.set i r.doubted := by
  have hset (x : Record) := getElem?_set_of_getElem? (l := p.records) x h
  unfold Part.makeDoubtful
  cases hs : r.recallState <;>
    simp [h, hs, Record.doubted, modify_eq_set_of_getElem? _ h, modify_eq_set_of_getElem? _ (hset _)]

/-- R12, R45: the record joins the Recall List at its tail, unless its recall is pending already. -/
theorem Part.makeDoubtful_list (h : p.records[i]? = some r) :
    (r.RecallPending → (p.makeDoubtful i).recalls.list = p.recalls.list) ∧
      (¬ r.RecallPending → (p.makeDoubtful i).recalls.list = p.recalls.list ++ [i]) := by
  have hdrop (q : Part) : (q.dropReply i).recalls.list = q.recalls.list := by
    obtain ⟨rs, l, hq, -⟩ := q.dropReply_spec i
    rw [hq]
  unfold Part.makeDoubtful Record.RecallPending
  cases hs : r.recallState <;> simp [h, hs, hdrop]

theorem Part.makeDoubtful_clock (i : Nat) (p : Part) : (p.makeDoubtful i).clock = p.clock := by
  obtain ⟨u, rs, q, h, -⟩ := p.makeDoubtful_spec i
  rw [h]

/-! ### Application (R10, R11, R18) -/

/-- The record and the board's flashes after an application, before doubt or the recall's satisfaction. -/
def Part.applied (c : Contents) (i : Nat) (r : Record) (p : Part) : Part :=
  let p1 := p.modifyRecord i c.applyTo
  if c.flashes r.shown then { p1 with board := p1.board.startFlash i } else p1

theorem Part.applied_records (c : Contents) (h : p.records[i]? = some r) :
    (p.applied c i r).records = p.records.set i (c.applyTo r) := by
  have hm : (p.modifyRecord i c.applyTo).records = p.records.set i (c.applyTo r) := modify_eq_set_of_getElem? _ h
  unfold Part.applied
  simp only
  split <;> exact hm

theorem Part.applied_getElem? (c : Contents) (h : p.records[i]? = some r) :
    (p.applied c i r).records[i]? = some (c.applyTo r) := by
  rw [Part.applied_records c h]
  exact getElem?_set_of_getElem? _ h

theorem Part.applied_recalls (c : Contents) (i : Nat) (r : Record) (p : Part) :
    (p.applied c i r).recalls = p.recalls := by
  unfold Part.applied
  simp only
  split <;> rfl

theorem Part.applyContents_of_ignored {c : Contents} (hg : c.gate r = .ignored) : p.applyContents c i r = p := by
  simp [Part.applyContents, hg]

/-- R12: applied contents of a SALE, QUOTE or STATE make the record doubtful when the gate says so. -/
theorem Part.applyContents_report {c : Contents} {doubt : Bool} (hc : ∀ x, c ≠ .reply x)
    (hg : c.gate r = .applied doubt) :
    p.applyContents c i r = if doubt then (p.applied c i r).makeDoubtful i else p.applied c i r := by
  cases c with
  | reply x => exact absurd rfl (hc x)
  | sale x | quote x | state x => simp [Part.applyContents, hg, Part.applied]

/-- R19, R60: an accepted REPLY satisfies the record's recall. -/
theorem Part.applyContents_reply {c : ReplyContents} {doubt : Bool}
    (hg : (Contents.reply c).gate r = .applied doubt) :
    p.applyContents (.reply c) i r = (p.applied (.reply c) i r).satisfyRecall i r.recallState := by
  simp [Part.applyContents, hg, Part.applied]

theorem Part.satisfyRecall_records (i : Nat) (before : RecallState) (p : Part) :
    (p.satisfyRecall i before).records = p.records.modify i fun r => { r with recallState := .none } := by
  cases before <;> simp [Part.satisfyRecall]

/-- What an application can make of a record: it stands, or it takes the contents, and is then doubtful after a report
or has its recall satisfied after a REPLY. -/
theorem Part.applyContents_records (c : Contents) (h : p.records[i]? = some r) :
    (p.applyContents c i r).records = p.records ∨
      ∃ r', (p.applyContents c i r).records = p.records.set i r' ∧
        (r' = c.applyTo r ∨ r' = (c.applyTo r).doubted ∨ r' = { c.applyTo r with recallState := .none }) := by
  have hget := Part.applied_getElem? c h
  have hrec := Part.applied_records c h
  cases hg : c.gate r with
  | ignored => exact .inl (by rw [Part.applyContents_of_ignored hg])
  | applied doubt =>
    refine .inr ?_
    by_cases hc : ∃ x, c = .reply x
    · obtain ⟨x, rfl⟩ := hc
      refine ⟨_, ?_, .inr (.inr rfl)⟩
      rw [Part.applyContents_reply hg, Part.satisfyRecall_records, modify_eq_set_of_getElem? _ hget, hrec, List.set_set]
    · rw [Part.applyContents_report (fun x hx => hc ⟨x, hx⟩) hg]
      cases doubt
      · exact ⟨_, hrec, .inl rfl⟩
      · refine ⟨_, ?_, .inr (.inl rfl)⟩
        rw [if_pos rfl, Part.makeDoubtful_records hget, hrec, List.set_set]

/-! ### The revision gates (R10, R18) -/

theorem Contents.gate_report {c : Contents} (hc : ∀ x, c ≠ .reply x) (r : Record) :
    c.gate r = reportGate r c.revision := by
  cases c with
  | reply x => exact absurd rfl (hc x)
  | sale x | quote x | state x => rfl

theorem reportGate_of_unheard (f : Revision) (h : r.heard = false) : reportGate r f = .applied true := by
  simp [reportGate, h]

/-- Table 1-4. -/
theorem reportGate_of_heard {rv : Revision} (f : Revision) (h : r.heard = true) (hrv : r.revision = some rv) :
    (revisionDistance f rv = 0 ∨ 2048 ≤ revisionDistance f rv → reportGate r f = .ignored) ∧
      (revisionDistance f rv = 1 → reportGate r f = .applied false) ∧
      (2 ≤ revisionDistance f rv → revisionDistance f rv ≤ 2047 → reportGate r f = .applied true) := by
  simp only [reportGate, h, hrv]
  refine ⟨?_, ?_, ?_⟩
  · rintro (h0 | h0)
    · simp [h0]
    · rw [if_neg (by omega), if_neg (by omega), if_neg (by omega)]
  · intro h1
    simp [h1]
  · intro h2 h3
    rw [if_neg (by omega), if_neg (by omega), if_pos h3]

/-- Table 1-7: the gate opens for a NEVER HEARD record, and for a REPLY that is not older. -/
theorem replyGate_of_accepted {f : Revision}
    (h : r.heard = false ∨ ∃ rv, r.revision = some rv ∧ revisionDistance f rv ≤ 2047) :
    replyGate r f = .applied false := by
  unfold replyGate
  rcases h with h | ⟨rv, hrv, hd⟩
  · simp [h]
  · cases hh : r.heard <;> simp [hrv, hd]

/-! ### The judgement (R6) -/

theorem Part.adoptDay_of_set {day : Day} (d : Day) (h : p.day = some day) : p.adoptDay d = p := by
  have hs : p.clock.session.isSome := by
    cases hs : p.clock.session with
    | none => simp [Part.day, hs] at h
    | some x => rfl
  simp [Part.adoptDay, Option.isNone_iff_eq_none, Option.isSome_iff_ne_none.mp hs]

theorem Part.judge_of_malformed {c : Contents} (hw : c.wellFormed = false) (hl : p.lookup c.symbol = some i) :
    p.judge c = (p.makeDoubtful i).markDependents p.records := by
  simp [Part.judge, Part.judgeCore, hw, hl]

theorem Part.judge_of_wellFormed {c : Contents} {day : Day} (hw : c.wellFormed = true)
    (hl : p.lookup c.symbol = some i) (hr : p.records[i]? = some r) (hd : p.day = some day) :
    p.judge c = (if c.day = day then p.applyContents c i r else p).markDependents p.records := by
  simp [Part.judge, Part.judgeCore, hw, hl, hr, hd, p.adoptDay_of_set c.day hd, eq_comm]

/-- What the contents can make of the record of their symbol, when they change it. -/
def Contents.MakesOf (c : Contents) (r r' : Record) : Prop :=
  c.wellFormed = false ∧ r' = r.doubted ∨
    c.wellFormed = true ∧
      (r' = c.applyTo r ∨ r' = (c.applyTo r).doubted ∨ r' = { c.applyTo r with recallState := .none })

/-- R7: a judgement changes no record, or the one of the contents' symbol. -/
theorem Part.judge_records (c : Contents) (p : Part) :
    (p.judge c).records = p.records ∨
      ∃ i r r', p.lookup c.symbol = some i ∧ p.records[i]? = some r ∧
        (p.judge c).records = p.records.set i r' ∧ c.MakesOf r r' := by
  unfold Part.judge Contents.MakesOf
  rw [Part.markDependents_records]
  unfold Part.judgeCore
  split
  · rename_i hw
    have hp1 : (p.adoptDay c.day).records = p.records := p.adoptDay_records c.day
    have hlook : (p.adoptDay c.day).lookup c.symbol = p.lookup c.symbol := by
      refine Part.lookup_congr _ _ ?_ _
      unfold Part.adoptDay
      split <;> rfl
    simp only
    split
    · exact .inl hp1
    · rename_i i hi
      split
      · exact .inl hp1
      · rename_i r hr
        split
        · rw [← hp1]
          rcases Part.applyContents_records c hr with h | ⟨r', h, hr'⟩
          · exact .inl h
          · exact .inr ⟨i, r, r', by rw [← hlook, hi], hr, h, .inr ⟨hw, hr'⟩⟩
        · exact .inl hp1
  · rename_i hw
    have hw' : c.wellFormed = false := by simpa using hw
    split
    · rename_i i hi
      cases hr : p.records[i]? with
      | none => exact .inl (by simp [Part.makeDoubtful, hr])
      | some r => exact .inr ⟨i, r, _, hi, hr, Part.makeDoubtful_records hr, .inl ⟨hw', rfl⟩⟩
    · exact .inl rfl

end

end Sys2Proof.Machine
end

section
/-! The statements on the judgement of contents (R7 to R19). -/

namespace Sys2Proof.Machine

/-- Settles O28: a judgement writes at the index of the contents' symbol alone. -/
theorem otherRecordsUntouched : Obligations.OtherRecordsUntouched := by
  intro p c j hj
  rcases p.judge_records c with h | ⟨i, r, r', hi, -, h, -⟩
  · rw [h]
  · have hne : i ≠ j := fun e => hj (e ▸ hi)
    rw [h, List.getElem?_set_ne hne]

/-! ### Table 1-5: the tick -/

theorem nextTick_up {ref price : Nat} (t : Tick) (h : ref < price) : nextTick (some ref) price t = .up := by
  simp [nextTick, h]

theorem nextTick_down {ref price : Nat} (t : Tick) (h : price < ref) : nextTick (some ref) price t = .down := by
  simp [nextTick, h, Nat.le_of_lt h]

/-- An equal price gives the ZERO tick of the side that the tick before was on. -/
theorem nextTick_equal (price : Nat) (t : Tick) :
    (t = .up ∨ t = .zeroUp → nextTick (some price) price t = .zeroUp) ∧
      (t = .down ∨ t = .zeroDown → nextTick (some price) price t = .zeroDown) ∧
      (t = .none → nextTick (some price) price t = .none) := by
  cases t <;> simp [nextTick]

theorem Displayed.reference_eq {d : Displayed} {ref : Nat}
    (h : d.last = some ref ∨ d.last = none ∧ d.previousClose = some ref) : d.reference = some ref := by
  rcases h with h | ⟨h, hp⟩ <;> simp [Displayed.reference, *]

/-! ### SALE (R13 to R15) -/

theorem Displayed.sale_odd {volume : Nat} (price : Nat) (d : Displayed) (h : volume < 100) :
    d.sale price volume = d.count volume := by
  simp [Displayed.sale, Config.roundLot, h]

theorem Displayed.sale_round {volume : Nat} (price : Nat) (d : Displayed) (h : 100 ≤ volume) :
    d.sale price volume = { (d.count volume).trade price with
      tick := nextTick d.reference price d.tick, state := tradedState d.state } := by
  simp [Displayed.sale, Config.roundLot, Nat.not_lt.mpr h]

/-- R14: the first sale of the day sets the four prices. -/
theorem Displayed.trade_first (price : Nat) {d : Displayed} (h : d.last = none) :
    d.trade price = { d with opening := some price, high := some price, low := some price, last := some price } := by
  simp [Displayed.trade, h]

/-- R14: a later sale widens high and low around its price. -/
theorem Displayed.trade_later (price : Nat) {d : Displayed} {l : Nat} (h : d.last = some l) :
    d.trade price =
      { d with high := d.high.map (max price), low := d.low.map (min price), last := some price } := by
  simp [Displayed.trade, h]

/-- R14: a trade writes the four prices of the day alone. -/
theorem Displayed.trade_spec (price : Nat) (d : Displayed) :
    ∃ o h l, d.trade price = { d with opening := o, high := h, low := l, last := some price } := by
  cases hl : d.last with
  | none => exact ⟨_, _, _, d.trade_first price hl⟩
  | some x => exact ⟨_, _, _, d.trade_later price hl⟩

/-- R13: a volume that reaches its limit is saturated, and stays so. -/
theorem Displayed.count_saturated (volume : Nat) (d : Displayed) :
    (d.count volume).saturated = true ↔ d.saturated = true ∨ 999999999 ≤ d.volume + volume :=
  Bool.or_eq_true_iff.trans (or_congr_right decide_eq_true_iff)

/-- R13: what every SALE does, an odd lot or a round lot: the counts, and not the close, the sides or doubt. -/
theorem Displayed.sale_counts (price volume : Nat) (d : Displayed) :
    let e := d.sale price volume
    let c := d.count volume
    e.volume = c.volume ∧ e.saleCount = c.saleCount ∧ e.saturated = c.saturated ∧
      e.previousClose = d.previousClose ∧ e.bid = d.bid ∧ e.ask = d.ask ∧ e.doubtful = d.doubtful := by
  simp only
  rcases Nat.lt_or_ge volume 100 with hv | hv
  · rw [d.sale_odd price hv]
    exact ⟨rfl, rfl, rfl, rfl, rfl, rfl, rfl⟩
  · obtain ⟨o, h, l, ht⟩ := (d.count volume).trade_spec price
    rw [d.sale_round price hv, ht]
    exact ⟨rfl, rfl, rfl, rfl, rfl, rfl, rfl⟩

/-- R15. -/
theorem tradedState_spec (s : InstrState) :
    (s = .notOpened ∨ s = .delayed → tradedState s = .trading) ∧
      (s = .trading ∨ s = .halted ∨ s = .closed → tradedState s = s) := by
  cases s <;> simp [tradedState]

/-- R17, Table 1-6: HALT, RESUME by the day's sales, and DELAY of a record that has not opened. -/
theorem Displayed.instrState_spec {code : Nat} (d : Displayed) (h1 : 1 ≤ code) (h3 : code ≤ 3) :
    ∃ st, d.instrState code = { d with state := st } ∧
      (code = 1 → st = .halted) ∧ (code = 2 → 0 < d.saleCount → st = .trading) ∧
      (code = 2 → d.saleCount = 0 → st = .notOpened) ∧
      (code = 3 → d.state = .notOpened → st = .delayed) ∧ (code = 3 → d.state ≠ .notOpened → st = d.state) := by
  have hcode : code = 1 ∨ code = 2 ∨ code = 3 := by omega
  rcases hcode with rfl | rfl | rfl
  · exact ⟨.halted, rfl, by simp⟩
  · exact ⟨if 0 < d.saleCount then .trading else .notOpened, rfl, by simp +contextual⟩
  · exact ⟨if d.state = .notOpened then .delayed else d.state, rfl, by simp +contextual⟩

/-- Settles O27: an odd lot moves the counts alone, a round lot the prices, the tick and the state too. -/
theorem reportsChangeRecord : Obligations.ReportsChangeRecord := by
  refine ⟨?_, ?_⟩
  · intro d price volume
    obtain ⟨hvol, hcnt, hsat, hpc, hbid, hask, hdbt⟩ := d.sale_counts price volume
    refine ⟨hvol, hcnt, ?_, hpc, hbid, hask, hdbt, ?_, ?_⟩
    · rw [hsat]
      exact d.count_saturated volume
    · intro hv
      rw [d.sale_odd price hv]
      exact ⟨rfl, rfl, rfl, rfl, rfl, rfl⟩
    · intro hv
      obtain ⟨o, h, l, ht⟩ := (d.count volume).trade_spec price
      obtain ⟨hopen, hkeep⟩ := tradedState_spec d.state
      have htick : (d.sale price volume).tick = nextTick d.reference price d.tick := by rw [d.sale_round price hv]
      have hstate : (d.sale price volume).state = tradedState d.state := by rw [d.sale_round price hv]
      refine ⟨by rw [d.sale_round price hv, ht], ?_, ?_, ?_, ?_, ?_, ?_⟩
      · intro hl
        rw [d.sale_round price hv, (d.count volume).trade_first price hl]
        exact ⟨rfl, rfl, rfl⟩
      · intro l h lo hl hh hlo
        rw [d.sale_round price hv, (d.count volume).trade_later price hl]
        simp [Displayed.count, hh, hlo, max_comm, min_comm]
      · intro hs
        rw [hstate, hopen hs]
      · intro hs
        rw [hstate, hkeep hs]
      · intro hl hp
        rw [htick]
        simp [Displayed.reference, hl, hp, nextTick]
      · intro ref href
        rw [htick, Displayed.reference_eq href]
        refine ⟨nextTick_up _, nextTick_down _, ?_⟩
        rintro rfl
        exact nextTick_equal _ _
  · exact fun d => ⟨fun _ => rfl, fun x h1 h3 => d.instrState_spec h1 h3⟩

/-- Settles O26: the content check, the day gate and Table 1-4, each outcome written at the index of the symbol. -/
theorem revisionGateDecides : Obligations.RevisionGateDecides := by
  intro p c i r hl hr
  simp only
  have hset := Part.applied_records c hr
  have hget := Part.applied_getElem? c hr
  have hdoubtful := Part.makeDoubtful_records hget
  have hlist := Part.makeDoubtful_list hget
  rw [hset, List.set_set] at hdoubtful
  rw [Part.applied_recalls] at hlist
  refine ⟨?_, ?_⟩
  · intro hw
    rw [Part.judge_of_malformed hw hl]
    exact ⟨⟨Part.makeDoubtful_records hr, Part.makeDoubtful_list hr⟩, Part.makeDoubtful_clock i p⟩
  · intro hw hc day hd
    have hjudge := Part.judge_of_wellFormed hw hl hr hd
    have happly {doubt : Bool} (hday : c.day = day) (hg : reportGate r c.revision = .applied doubt) :
        p.judge c = (if doubt then (p.applied c i r).makeDoubtful i else p.applied c i r).markDependents p.records := by
      rw [hjudge, if_pos hday, Part.applyContents_report hc (by rw [Contents.gate_report hc, hg])]
    refine ⟨?_, ?_, ?_⟩
    · intro hday
      rw [hjudge, if_neg hday]
      rfl
    · intro hday hh
      rw [happly hday (reportGate_of_unheard _ hh)]
      exact ⟨hdoubtful, hlist⟩
    · intro rv hh hrv
      obtain ⟨hign, hseq, hgap⟩ := reportGate_of_heard c.revision hh hrv
      refine ⟨?_, ?_, ?_⟩
      · intro h
        rw [hjudge, Part.applyContents_of_ignored (by rw [Contents.gate_report hc, hign h])]
        split <;> rfl
      · intro hday h
        rw [happly hday (hseq h)]
        exact hset
      · intro hday h2 h3
        rw [happly hday (hgap h2 h3)]
        exact ⟨hdoubtful, hlist⟩

/-! ### REPLY (R18, R19, R60) -/

/-- R19: the codes that a well-formed REPLY carries read back from the fields it writes. -/
theorem ReplyContents.displayed_codes (c : ReplyContents) (hw : c.wellFormed = true) :
    c.displayed.state.code = c.stateCode ∧ c.displayed.tick.code = c.tickCode := by
  simp only [ReplyContents.wellFormed, Bool.and_eq_true, Option.isSome_iff_exists] at hw
  obtain ⟨⟨⟨⟨⟨⟨⟨⟨-, hs⟩, ht⟩, -⟩, -⟩, -⟩, -⟩, -⟩, -⟩ := hw
  obtain ⟨s, hs⟩ := hs
  obtain ⟨t, ht⟩ := ht
  simp only [ReplyContents.displayed, hs, ht, Option.getD_some]
  exact ⟨((InstrState.ofCode_eq_some_iff _ _).mp hs).symm, ((Tick.ofCode_eq_some_iff _ _).mp ht).symm⟩

/-- R19, R60: a satisfied recall takes the record off the Recall List, or frees its slot. -/
theorem Part.satisfyRecall_recalls (i : Nat) (before : RecallState) (p : Part) :
    (before = .listed → i ∉ (p.satisfyRecall i before).recalls.list) ∧
      (before = .outstanding → ∀ sl ∈ (p.satisfyRecall i before).recalls.slots, sl.record ≠ i) := by
  refine ⟨?_, ?_⟩
  · rintro rfl
    simp [Part.satisfyRecall]
  · rintro rfl sl hsl
    obtain ⟨q, hq, -⟩ := (p.setRecallState i .none).freeSlot_spec i
    simp only [Part.satisfyRecall, hq, List.mem_filter, bne_iff_ne] at hsl
    exact hsl.2

/-- Settles O29: the gate of Table 1-7 opens, and the application is followed by the recall's satisfaction. -/
theorem replyConfirmsRecord : Obligations.ReplyConfirmsRecord := by
  intro p c i r hw hl hr hd hgate
  have hg : (Contents.reply c).gate r = .applied false := replyGate_of_accepted hgate
  have hjudge : p.judge (.reply c) =
      ((p.applied (.reply c) i r).satisfyRecall i r.recallState).markDependents p.records := by
    rw [Part.judge_of_wellFormed (c := .reply c) hw hl hr hd, ← Part.applyContents_reply hg]
    exact congrArg (Part.markDependents p.records) (if_pos rfl)
  obtain ⟨hstate, htick⟩ := c.displayed_codes hw
  obtain ⟨hlist, hslots⟩ := (p.applied (.reply c) i r).satisfyRecall_recalls i r.recallState
  refine ⟨{ (Contents.reply c).applyTo r with recallState := .none }, ?_, rfl, rfl, rfl, rfl, rfl, rfl, rfl, rfl, rfl,
    rfl, hstate, htick, rfl, rfl, rfl, rfl, rfl, rfl, rfl, rfl, rfl, rfl, ?_, ?_⟩
  · rw [hjudge, Part.markDependents_records, Part.satisfyRecall_records,
      modify_eq_set_of_getElem? _ (Part.applied_getElem? _ hr), Part.applied_records _ hr, List.set_set]
  · rw [hjudge]
    exact hlist
  · rw [hjudge]
    exact hslots

end Sys2Proof.Machine
end

section
/-! The record law (R2): every operation that writes a record keeps its shape, and so does every command. -/

namespace Sys2Proof.Machine

/-! ### How the law follows from what an operation writes -/

section
variable {p q : Part}

theorem Part.RecordLaw.of_records (h : p.RecordLaw) (he : q.records = p.records) : q.RecordLaw := by
  unfold Part.RecordLaw
  rw [he]
  exact h

/-- The shape sees no recall state, so the Recall Unit's operations keep the law. -/
theorem Part.RecordLaw.of_recallOnly (h : p.RecordLaw) (ho : RecallOnly p.records q.records) : q.RecordLaw := by
  intro r hr
  obtain ⟨r₀, h₀, he⟩ := ho.exists_old hr
  rw [he, Record.shape_setRecallState]
  exact h r₀ h₀

theorem Part.RecordLaw.of_set {i : Nat} {r : Record} (h : p.RecordLaw) (he : q.records = p.records.set i r)
    (hr : r.Shape) : q.RecordLaw := by
  intro x hx
  rw [he] at hx
  rcases List.mem_or_eq_of_mem_set hx with hx | rfl
  · exact h x hx
  · exact hr

theorem Part.RecordLaw.of_map {f : Record → Record} (h : p.RecordLaw) (he : q.records = p.records.map f)
    (hf : ∀ r, r.Shape → (f r).Shape) : q.RecordLaw := by
  intro x hx
  rw [he] at hx
  obtain ⟨r, hr, rfl⟩ := List.mem_map.mp hx
  exact hf r (h r hr)

theorem Part.RecordLaw.whenRunning {f : Part → Part} (h : p.RecordLaw) (hf : (f p).RecordLaw) :
    (p.whenRunning f).RecordLaw := by
  unfold Part.whenRunning
  split
  · exact hf
  · exact h

/-! ### Judgement and rollovers (R6, R21, R22) -/

/-- What well-formed or malformed contents make of a record keeps the shape. -/
theorem Contents.MakesOf.shape {c : Contents} {r r' : Record} (h : c.MakesOf r r') (hc : c.CountInRange)
    (hr : r.Shape) : r'.Shape := by
  rcases h with ⟨-, rfl⟩ | ⟨hw, rfl | rfl | rfl⟩
  · exact hr.doubt
  · exact c.applyTo_shape r hw hc hr
  · exact (c.applyTo_shape r hw hc hr).doubt
  · exact c.applyTo_shape r hw hc hr

theorem Part.RecordLaw.judge {c : Contents} (h : p.RecordLaw) (hc : c.CountInRange) : (p.judge c).RecordLaw := by
  rcases p.judge_records c with he | ⟨i, r, r', -, hr, he, hm⟩
  · exact h.of_records he
  · exact h.of_set he (hm.shape hc (h r (List.mem_of_getElem? hr)))

theorem Part.RecordLaw.openDay (h : p.RecordLaw) (d : Day) : (p.openDay d).RecordLaw :=
  h.of_map rfl (Record.openRollover_shape d)

theorem Part.RecordLaw.closeDay (h : p.RecordLaw) (d : Day) : (p.closeDay d).RecordLaw :=
  h.of_map rfl Record.closeRollover_shape

/-! ### Session Clock and Timetable (R79 to R90) -/

theorem Part.RecordLaw.openAction (h : p.RecordLaw) : p.openAction.RecordLaw := by
  unfold Part.openAction
  split
  · exact (h.openDay _).of_recallOnly (Part.offerOwn_recallOnly _ _)
  · exact h

theorem Part.RecordLaw.closeAction (h : p.RecordLaw) : p.closeAction.RecordLaw := by
  unfold Part.closeAction
  split
  · rename_i d _
    exact ((h.closeDay d).of_recallOnly (Part.offerOwn_recallOnly _ (.session d 1))).of_records
      (Part.blankAtClose_records _)
  · exact h

theorem Part.RecordLaw.performAction (h : p.RecordLaw) (hour minute : Nat) (a : TimetableAction) :
    (p.performAction hour minute a).RecordLaw := by
  refine Part.RecordLaw.of_recallOnly ?_ (Part.settle_recallOnly _)
  cases a with
  | openSession => exact h.openAction
  | closeSession => exact h.closeAction
  | tapeTime => exact h.of_records (p.onTape_records _)
  | repaint => exact h
  | sendClock =>
    simp only
    split
    · exact h.of_recallOnly (p.offerOwn_recallOnly .clock)
    · exact h

theorem Part.RecordLaw.minuteBoundary (h : p.RecordLaw) (t : TimeOfDay) : (p.minuteBoundary t).RecordLaw := by
  have hfold (hour minute : Nat) (es : List TimetableEntry) (q : Part) (hq : q.RecordLaw) :
      (es.foldl (fun q e => q.performAction hour minute e.action) q).RecordLaw := by
    induction es generalizing q with
    | nil => exact hq
    | cons e es ih =>
      rw [List.foldl_cons]
      exact ih _ (hq.performAction hour minute e.action)
  exact hfold _ _ _ p h

theorem Part.RecordLaw.secondExpiry (h : p.RecordLaw) : p.secondExpiry.RecordLaw := by
  unfold Part.secondExpiry
  split
  · exact h
  · rename_i t _
    have ht : (p.setTime t.advance).RecordLaw := h
    simp only
    split
    · exact ht.minuteBoundary _
    · exact ht

theorem Part.RecordLaw.sessionHeard (h : p.RecordLaw) (f : Day) (phase : Nat) : (p.sessionHeard f phase).RecordLaw := by
  unfold Part.sessionHeard
  split
  · exact h
  · exact h
  · split
    · exact (h.closeDay _).of_records (Part.blankAtClose_records _)
    · exact h
  · split
    · exact h.openDay _
    · exact h
  · exact h

/-! ### Frames heard and frames sent (R64 to R68, R74) -/

theorem Part.RecordLaw.saleArrives (h : p.RecordLaw) (c : SaleContents) : (p.saleArrives c).RecordLaw := by
  have hj : (p.judge (.sale c)).RecordLaw := h.judge trivial
  exact hj.of_records (by simp [Part.saleArrives])

theorem Part.RecordLaw.replyHeard (h : p.RecordLaw) {c : ReplyContents} (hc : (Contents.reply c).CountInRange) :
    (p.replyHeard c).RecordLaw := by
  refine Part.RecordLaw.judge ?_ hc
  split
  · split
    · split
      · exact h.of_records (p.dropReply_records _)
      · exact h
    · exact h
  · exact h

/-- R179: a REPLY body read has a sale count of two bytes. -/
theorem readBody_reply {kind : Nat} {b : List Byte} {c : ReplyContents} (h : readBody kind b = some (.reply c)) :
    c = readReply b := by
  unfold readBody at h
  simp only at h
  split at h <;>
    simp only [Option.ite_none_right_eq_some, Option.some.injEq, reduceCtorEq, and_false, FrameBody.reply.injEq] at h
  exact h.2.symm

theorem readFrame_reply {bytes : List Byte} {origin : Nat} {c : ReplyContents}
    (h : readFrame bytes = some (origin, .reply c)) : (Contents.reply c).CountInRange := by
  unfold readFrame at h
  simp only at h
  split at h
  · obtain ⟨body, hb, he⟩ := Option.map_eq_some_iff.mp h
    obtain ⟨-, rfl⟩ := Prod.mk.inj he
    rw [readBody_reply hb]
    exact Nat.le_of_lt_succ (field_lt _ 15 2)
  · exact absurd h nofun

theorem Part.RecordLaw.handFrame (h : p.RecordLaw) {bytes : List Byte} {origin : Nat} {b : FrameBody}
    (hb : readFrame bytes = some (origin, b)) : (p.handFrame b).RecordLaw := by
  cases b with
  | sale c => exact h.saleArrives c
  | quote c | state c => exact h.judge trivial
  | recallFor s d => exact h.of_recallOnly (p.recallHeard_recallOnly s d)
  | reply c => exact h.replyHeard (readFrame_reply hb)
  | notice u t => exact h.of_records (p.noticeArrives_records u t)
  | session d ph => exact h.sessionHeard d ph
  | clock w hr m s => exact h.of_records (p.clockHeard_records w hr m s)
  | hold g a => exact h

theorem Part.RecordLaw.judgeFrame (h : p.RecordLaw) (bytes : List Byte) : (p.judgeFrame bytes).RecordLaw := by
  unfold Part.judgeFrame
  split
  · exact h
  · rename_i origin body hb
    have ho : (p.checkOrigin origin).RecordLaw := h.of_records (p.checkOrigin_records origin)
    exact (ho.handFrame hb).of_recallOnly (Part.settle_recallOnly _)

theorem Part.RecordLaw.endOfTransmission (h : p.RecordLaw) (bytes : List Byte) :
    (p.endOfTransmission bytes).RecordLaw := by
  unfold Part.endOfTransmission
  split
  · exact h
  · have hq : (p.onLine Line.becomeQuiet).RecordLaw := h
    simp only
    split
    · exact hq.judgeFrame bytes
    · exact hq

theorem Part.RecordLaw.handOn (h : p.RecordLaw) (b : TxBody) : (p.handOn b).RecordLaw := by
  cases b with
  | sale c => exact h.saleArrives c
  | quote c | state c => exact h.judge trivial
  | notice u t => exact h.of_records (p.noticeArrives_records u t)
  | hold g a | recallFor i | reply i | session d ph | clock => exact h

theorem Part.RecordLaw.entryOutcome (h : p.RecordLaw) (f : QueuedFrame) (sent : Bool) :
    (p.entryOutcome f sent).RecordLaw := by
  have hand (q : Part) (hq : q.RecordLaw) : ((q.handOn f.body).settle).RecordLaw :=
    (hq.handOn f.body).of_recallOnly (Part.settle_recallOnly _)
  unfold Part.entryOutcome
  split
  · simp only
    split
    · exact hand _ h
    · exact h
  · split
    · simp only
      split
      · exact hand _ h
      · exact h
    · exact h

theorem Part.RecordLaw.ownerOutcome (h : p.RecordLaw) (f : QueuedFrame) (sent : Bool) :
    (p.ownerOutcome f sent).RecordLaw := by
  unfold Part.ownerOutcome
  cases f.body with
  | recallFor i | reply i | session d ph | clock => exact h
  | sale c | quote c | state c | notice u text | hold g a => exact h.entryOutcome f sent

theorem Part.RecordLaw.endSend (h : p.RecordLaw) (sent : Bool) : (p.endSend sent).RecordLaw := by
  unfold Part.endSend
  split
  · exact h
  · rename_i x _
    exact (h.ownerOutcome x.frame sent).of_records (Part.takeFrame_records _)

theorem Part.RecordLaw.sendComplete (h : p.RecordLaw) : p.sendComplete.RecordLaw := by
  unfold Part.sendComplete
  split
  · exact h.endSend true
  · exact h

theorem Part.RecordLaw.clash (h : p.RecordLaw) : p.clash.RecordLaw := by
  unfold Part.clash
  split
  · exact h
  · split
    · exact h
    · split
      · exact h
      · exact h.endSend false

/-! ### Ribbon (R42) -/

theorem Part.RecordLaw.writeLastWhole (h : p.RecordLaw) (w : Option (Nat × Nat)) : (p.writeLastWhole w).RecordLaw := by
  unfold Part.writeLastWhole
  split
  · rename_i i n
    cases hr : p.records[i]? with
    | none => exact h.of_records (List.modify_eq_self (by simpa using hr))
    | some r =>
      refine h.of_set (modify_eq_set_of_getElem? _ hr) ?_
      rw [Record.shape_setLastWhole]
      exact h r (List.mem_of_getElem? hr)
  · exact h

theorem Part.RecordLaw.ribbonFormed (h : p.RecordLaw) : p.ribbonFormed.RecordLaw := by
  unfold Part.ribbonFormed
  split
  · rename_i slot text whole _
    have hq : ({ p with ribbon := p.ribbon.formed slot text } : Part).RecordLaw := h
    exact (hq.writeLastWhole whole).of_records (by simp)
  · exact h

/-! ### Loading (R1, R3, R175 to R178) -/

theorem Part.recordLaw_of_empty (h : p.records = []) : p.RecordLaw := by
  intro r hr
  rw [h] at hr
  exact absurd hr List.not_mem_nil

theorem Part.RecordLaw.takeInstrument (h : p.RecordLaw) (x : InstrumentItem) : (p.takeInstrument x).RecordLaw := by
  unfold Part.takeInstrument
  split
  · exact h.of_records (p.warnIf_records true)
  · intro r hr
    simp only [Part.warnIf_records, List.mem_append, List.mem_singleton] at hr
    rcases hr with hr | rfl
    · exact h r hr
    · exact Record.fresh_shape _ _ _ _

theorem Part.takeZone_records (x : ZoneItem) (p : Part) : (p.takeZone x).records = p.records := by
  unfold Part.takeZone
  split
  · split <;> simp
  · simp

theorem Part.takePosition_records (x : PositionItem) (p : Part) : (p.takePosition x).records = p.records := by
  unfold Part.takePosition
  split <;> simp

theorem Part.takePage_records (n : Nat) (ss : List Symbol) (p : Part) : (p.takePage n ss).records = p.records := by
  unfold Part.takePage
  split <;> simp

theorem Part.takeTimetable_records (x : TimetableItem) (p : Part) : (p.takeTimetable x).records = p.records := by
  unfold Part.takeTimetable
  split <;> simp

/-- An item taken keeps the law: an instrument adds a fresh record, another item none. -/
theorem readItem_keeps_recordLaw {sec : ImageSection} {bs rest : List Byte} {take : Part → Part}
    (h : readItem sec bs = .got take rest) (hp : p.RecordLaw) : (take p).RecordLaw := by
  cases sec with
  | header =>
    simp only [readItem] at h
    split at h <;> cases h
    exact hp.of_records (Part.warnIf_records _ _)
  | instruments =>
    simp only [readItem] at h
    split at h <;> cases h
    exact hp.takeInstrument _
  | layouts =>
    simp only [readItem] at h
    split at h <;> cases h
    exact hp.of_records (Part.warnIf_records _ _)
  | zones =>
    simp only [readItem] at h
    split at h <;> cases h
    exact hp.of_records (p.takeZone_records _)
  | positions =>
    simp only [readItem] at h
    split at h <;> cases h
    exact hp.of_records (p.takePosition_records _)
  | pages =>
    simp only [readItem] at h
    split at h <;> cases h
    exact hp.of_records (p.takePage_records _ _)
  | timetable =>
    simp only [readItem] at h
    split at h <;> cases h
    exact hp.of_records (p.takeTimetable_records _)

theorem Part.RecordLaw.itemRead (h : p.RecordLaw) (bytes : List Byte) : (p.itemRead bytes).RecordLaw := by
  unfold Part.itemRead
  split
  · exact h
  · simp only
    split
    · exact h
    · exact Part.recordLaw_of_empty rfl
    · rename_i hitem
      have hq (f : Loader → Loader) : (p.onLoader f).RecordLaw := h
      exact (readItem_keeps_recordLaw hitem (hq _)).of_records rfl

/-- R3: the lock gives every record the fresh shape. -/
theorem Part.lock_recordLaw (p : Part) : p.lock.RecordLaw := by
  refine Part.RecordLaw.of_recallOnly ?_ (Part.settle_recallOnly _)
  intro r hr
  obtain ⟨r₁, h₁, rfl⟩ := List.mem_map.mp hr
  obtain ⟨r₀, -, rfl⟩ := List.mem_map.mp h₁
  rw [Record.shape_setRecallState]
  exact Record.fresh_shape _ _ _ _

theorem Part.RecordLaw.loadCompletion (h : p.RecordLaw) (balance : Word16) : (p.loadCompletion balance).RecordLaw := by
  unfold Part.loadCompletion
  split
  · split
    · exact Part.lock_recordLaw p
    · exact Part.recordLaw_of_empty rfl
  · exact h

end

/-! ### Every command -/

/-- Every command has a next state and keeps the record law. -/
theorem exec_keeps_recordLaw (c : Instr) (s : State) (h : s.part.RecordLaw) :
    ∃ t, exec c s = .next t ∧ t.part.RecordLaw := by
  have hcommand (x : ConsoleCommand) : (s.part.commandWrite x).RecordLaw :=
    h.of_recallOnly (s.part.commandWrite_recallOnly x)
  have hkey (k : TerminalId) (b : Byte) (fault : Bool) :
      (s.part.whenRunning (Part.keyReceived k b fault)).RecordLaw :=
    h.whenRunning (h.of_records (s.part.keyReceived_records k b fault))
  cases c with
  | fullReset => exact ⟨_, rfl, Part.recordLaw_of_empty rfl⟩
  | configItemRead bytes => exact ⟨_, rfl, h.itemRead bytes⟩
  | loadCompletion balance => exact ⟨_, rfl, h.loadCompletion balance⟩
  | endOfTransmission bytes => exact ⟨_, rfl, h.endOfTransmission bytes⟩
  | lineBusy => exact ⟨_, rfl, h⟩
  | interframeGapExpiry | backoffExpiry => exact ⟨_, rfl, h.whenRunning h⟩
  | sendComplete => exact ⟨_, rfl, h.whenRunning h.sendComplete⟩
  | clash => exact ⟨_, rfl, h.whenRunning h.clash⟩
  | paceExpiry => exact ⟨_, rfl, h.whenRunning (h.of_recallOnly s.part.paceExpiry_recallOnly)⟩
  | waitExpiry i => exact ⟨_, rfl, h.whenRunning (h.of_recallOnly (s.part.waitExpiry_recallOnly i))⟩
  | holdoffExpiry i => exact ⟨_, rfl, h.whenRunning (h.of_recallOnly (s.part.holdoffExpiry_recallOnly i))⟩
  | boardFormationCompletion => exact ⟨_, rfl, h.whenRunning (h.of_records s.part.boardFormed_records)⟩
  | ribbonFormationCompletion => exact ⟨_, rfl, h.whenRunning h.ribbonFormed⟩
  | terminalFormationCompletion => exact ⟨_, rfl, h.whenRunning (h.of_records s.part.terminalFormed_records)⟩
  | secondTimerExpiry => exact ⟨_, rfl, h.whenRunning h.secondExpiry⟩
  | panelWriteCompletion => exact ⟨_, rfl, h.of_records s.part.panelWriteComplete_records⟩
  | flashTimerExpiry k => exact ⟨_, rfl, h.whenRunning (h.of_records (s.part.flashExpiry_records k))⟩
  | advanceExpiry ready => exact ⟨_, rfl, h.of_records (s.part.advanceExpiry_records ready)⟩
  | outputRunCompletion k => exact ⟨_, rfl, h.of_records (s.part.runComplete_records k)⟩
  | highlightExpiry k row => exact ⟨_, rfl, h.whenRunning (h.of_records (s.part.highlightExpiry_records k row))⟩
  | keyCharacter k b fault => exact ⟨_, rfl, hkey k b fault⟩
  | backspace k => exact ⟨_, rfl, hkey k backspaceCode false⟩
  | selectPage k | selectWatch k | addToWatch k | removeFromWatch k | showDetail k | unknownCommand k =>
    exact ⟨_, rfl, hkey k returnCode false⟩
  | enterSale | enterQuote | enterState | enterNotice | hold | release | readRecord | setClock | clearStatus
  | abortClear | repaint | blank | warmRestart => exact ⟨_, rfl, hcommand _⟩
  | unknownCommandCode code => exact ⟨_, rfl, hcommand _⟩
  | dataWrite v => exact ⟨_, rfl, h.of_recallOnly (s.part.dataWrite_recallOnly v)⟩
  | dataRead | flagsRead | maskWrite v | ignoredRegisterWrite v => exact ⟨_, rfl, h⟩

/-- Settles O8: a step is idle or the execution of the front command, and every command keeps the law. -/
theorem recordLawKept : Obligations.RecordLawKept := by
  intro s t h hstep
  unfold step at hstep
  split at hstep
  · cases hstep
    exact h
  · rename_i c rest _
    obtain ⟨t', ht', hlaw⟩ := exec_keeps_recordLaw c { s with pending := rest } h
    rw [ht'] at hstep
    cases hstep
    exact hlaw

end Sys2Proof.Machine
end

section
/-! The Symbol Directory (R4, R5) and the instrument items of the image (R1, R176). -/

namespace Sys2Proof.Machine

/-! ### The order of symbols (R4, 0.5.3) -/

/-- The number that a symbol's five characters spell names the symbol. -/
theorem Symbol.eq_of_ofBytes_eq {a b : Symbol} (h : ofBytes a.bytes = ofBytes b.bytes) : a = b := by
  obtain ⟨a1, a2, a3, a4, a5⟩ := a
  obtain ⟨b1, b2, b3, b4, b5⟩ := b
  simp only [ofBytes, Symbol.bytes, List.foldl_cons, List.foldl_nil] at h
  simp only [Symbol.mk.injEq]
  refine ⟨?_, ?_, ?_, ?_, ?_⟩ <;> (apply BitVec.eq_of_toNat_eq; omega)

theorem Symbol.before_trans {a b c : Symbol} (h : a.before b = true) (h' : b.before c = true) :
    a.before c = true := by
  simp only [Symbol.before, decide_eq_true_eq] at h h' ⊢
  exact h.trans h'

/-- Of two symbols one stands before the other. -/
theorem Symbol.before_of_not_before {a b : Symbol} (hne : b ≠ a) (h : ¬ a.before b = true) : b.before a = true := by
  simp only [Symbol.before, decide_eq_true_eq] at h ⊢
  exact lt_of_le_of_ne (Nat.not_lt.mp h) fun e => hne (Symbol.eq_of_ofBytes_eq e)

/-! ### An entry inserted (R4) -/

theorem mem_insertSymbol {s : Symbol} {i : Nat} {e : Symbol × Nat} {d : List (Symbol × Nat)}
    (h : e ∈ insertSymbol s i d) : e = (s, i) ∨ e ∈ d := by
  induction d with
  | nil => simpa [insertSymbol] using h
  | cons x d ih =>
    unfold insertSymbol at h
    split at h
    · simpa using h
    · rcases List.mem_cons.mp h with rfl | h
      · exact .inr List.mem_cons_self
      · exact (ih h).imp_right (List.mem_cons_of_mem x)

/-- A new symbol takes its place: the directory stays in symbol order. -/
theorem insertSymbol_sorted {s : Symbol} (i : Nat) {d : List (Symbol × Nat)} (hs : ∀ e ∈ d, e.1 ≠ s)
    (h : d.Pairwise fun a b => a.1.before b.1 = true) :
    (insertSymbol s i d).Pairwise fun a b => a.1.before b.1 = true := by
  induction d with
  | nil => exact List.pairwise_singleton _ _
  | cons x d ih =>
    obtain ⟨hx, hd⟩ := List.pairwise_cons.mp h
    unfold insertSymbol
    split
    · rename_i hbefore
      refine List.pairwise_cons.mpr ⟨fun e he => ?_, h⟩
      rcases List.mem_cons.mp he with rfl | he
      · exact hbefore
      · exact Symbol.before_trans hbefore (hx e he)
    · rename_i hbefore
      refine List.pairwise_cons.mpr ⟨fun e he => ?_, ih (fun e he => hs e (List.mem_cons_of_mem x he)) hd⟩
      rcases mem_insertSymbol he with rfl | he
      · exact Symbol.before_of_not_before (hs x List.mem_cons_self) hbefore
      · exact hx e he

/-- A search of the directory by a symbol, after an entry of a new symbol is inserted. -/
theorem find?_insertSymbol {s : Symbol} (i : Nat) (x : Symbol) {d : List (Symbol × Nat)} (hs : ∀ e ∈ d, e.1 ≠ s) :
    (insertSymbol s i d).find? (fun e => e.1 == x) =
      if x = s then some (s, i) else d.find? fun e => e.1 == x := by
  induction d with
  | nil =>
    by_cases h : x = s
    · simp [insertSymbol, h]
    · simp [insertSymbol, h, Ne.symm h]
  | cons e d ih =>
    have ih' := ih fun e he => hs e (List.mem_cons_of_mem _ he)
    have he : e.1 ≠ s := hs e List.mem_cons_self
    unfold insertSymbol
    by_cases hx : x = s
    · subst hx
      split <;> simp [he, ih']
    · split <;> simp [hx, Ne.symm hx, ih', List.find?_cons]

/-- R5: after an entry of a new, well-formed symbol the symbol is found, and the other lookups stand. -/
theorem lookupSymbol_insertSymbol {s : Symbol} (i : Nat) (x : Symbol) {d : List (Symbol × Nat)}
    (hw : s.wellFormed = true) (hs : ∀ e ∈ d, e.1 ≠ s) :
    lookupSymbol (insertSymbol s i d) x = if x = s then some i else lookupSymbol d x := by
  unfold lookupSymbol
  rw [find?_insertSymbol i x hs]
  by_cases hx : x = s
  · simp [hx, hw]
  · simp [hx]

/-! ### An instrument accepted or dropped (R4, R176) -/

theorem Part.warnIf_eq (w : Bool) (p : Part) :
    p.warnIf w = { p with console := { p.console with flags := p.console.flags ||| if w then 16 else 0 } } := by
  cases w <;> simp [Part.warnIf, Part.raise, raiseFlag, EventFlag.bit]

/-- R4: the grounds on which an instrument is accepted. -/
def Part.Accepts (x : InstrumentItem) (p : Part) : Prop :=
  x.symbol.wellFormed = true ∧ (∀ e ∈ p.directory, e.1 ≠ x.symbol) ∧ isPriceStep x.priceStep = true

theorem Part.takeInstrument_of_accepts {x : InstrumentItem} {p : Part} (h : p.Accepts x) :
    p.takeInstrument x = ({ p with
      directory := insertSymbol x.symbol p.records.length p.directory
      records := p.records ++
        [Record.fresh x.symbol (if isStation x.home then some x.home else none) x.priceStep x.tapeExclude]
      } : Part).warnIf (decide (63 ≤ x.home)) := by
  obtain ⟨hw, hn, hp⟩ := h
  have hany : (p.directory.any fun e => e.1 == x.symbol) = false := by simpa using hn
  simp [Part.takeInstrument, hw, hany, hp]

theorem Part.takeInstrument_of_not_accepts {x : InstrumentItem} {p : Part} (h : ¬ p.Accepts x) :
    p.takeInstrument x = p.warnIf true := by
  unfold Part.takeInstrument
  rw [if_pos]
  by_contra hc
  simp only [Bool.or_eq_true, Bool.not_eq_true', List.any_eq_true, not_or, Bool.not_eq_false, not_exists, not_and,
    beq_iff_eq] at hc
  obtain ⟨⟨hw, hn⟩, hp⟩ := hc
  exact h ⟨hw, hn, hp⟩

/-- The judgement of an instrument does not read the Loader's own state. -/
theorem Part.takeInstrument_onLoader (x : InstrumentItem) (f : Loader → Loader) (p : Part) :
    (p.onLoader f).takeInstrument x = (p.takeInstrument x).onLoader f := by
  by_cases h : p.Accepts x
  · have h' : (p.onLoader f).Accepts x := h
    rw [Part.takeInstrument_of_accepts h, Part.takeInstrument_of_accepts h', Part.warnIf_eq, Part.warnIf_eq]
    rfl
  · have h' : ¬ (p.onLoader f).Accepts x := h
    rw [Part.takeInstrument_of_not_accepts h, Part.takeInstrument_of_not_accepts h', Part.warnIf_eq, Part.warnIf_eq]
    rfl

theorem Part.takeInstrument_loader (x : InstrumentItem) (p : Part) : (p.takeInstrument x).loader = p.loader := by
  unfold Part.takeInstrument
  split <;> rw [Part.warnIf_eq]

/-! ### The item read (R175) -/

/-- Table 10-5: the eight bytes of an instrument item. -/
theorem readInstrument_bytes (sym : Symbol) (home priceStep fl : Byte) :
    readInstrument (sym.bytes ++ [home, priceStep, fl]) =
      .got ⟨sym, home.toNat, priceStep.toNat, fl.getLsbD 0⟩ [] := by
  simp [readInstrument, readFixed, Symbol.bytes, Symbol.ofList, field, ofBytes, byteAt]

/-- R175: eight bytes are a whole number of pairs. -/
theorem sumBytes_instrument_odd (sym : Symbol) (home priceStep fl : Byte) (sum : Word16) (odd : Bool) :
    (sumBytes (sym.bytes ++ [home, priceStep, fl]) sum odd).2 = odd := by
  simp [Symbol.bytes, sumBytes]

/-- R175: with an instrument due, its eight bytes are judged, counted down and counted into the sum. -/
theorem Part.itemRead_instrument {p : Part} (sym : Symbol) (home priceStep fl : Byte) (hphase : p.loader.phase = .items)
    (hdue : 0 < p.loader.counts.instruments) (hbuf : p.loader.buffer = []) :
    p.itemRead (sym.bytes ++ [home, priceStep, fl]) =
      (p.takeInstrument ⟨sym, home.toNat, priceStep.toNat, fl.getLsbD 0⟩).onLoader fun l =>
        { l with
          counts := { l.counts with instruments := l.counts.instruments - 1 }
          sum := (sumBytes (sym.bytes ++ [home, priceStep, fl]) l.sum l.odd).1 } := by
  have hcur : p.loader.current = some .instruments := by simp [Loader.current, hphase, hdue]
  unfold Part.itemRead
  simp only [hcur, hbuf, List.nil_append, readItem, readInstrument_bytes, List.length_nil, Nat.sub_zero,
    List.take_length]
  generalize InstrumentItem.mk sym home.toNat priceStep.toNat (fl.getLsbD 0) = x
  rw [Part.takeInstrument_onLoader]
  simp [Part.onLoader, Loader.consume, Loader.keepRest, ItemCounts.countDown, p.takeInstrument_loader x, hbuf,
    sumBytes_instrument_odd]

theorem isPriceStep_toNat (b : Byte) : isPriceStep b.toNat = true ↔ b = 8 ∨ b = 16 ∨ b = 32 ∨ b = 64 := by
  simp only [isPriceStep, Bool.or_eq_true, beq_iff_eq, or_assoc, ← BitVec.toNat_inj]
  rfl

theorem isStation_iff (n : Nat) : isStation n = true ↔ 1 ≤ n ∧ n ≤ 62 := by
  simp [isStation]

/-- Settles O16: the grounds of R4 decide between the two outcomes, whose frame is the Loader's count and sum. -/
theorem instrumentItemJudged : Obligations.InstrumentItemJudged := by
  intro s sym home priceStep fl hphase hdue hbuf
  have hread := Part.itemRead_instrument sym home priceStep fl hphase hdue hbuf
  set x : InstrumentItem := ⟨sym, home.toNat, priceStep.toNat, fl.getLsbD 0⟩
  have hgrounds : s.part.Accepts x ↔ sym.wellFormed = true ∧ (∀ e ∈ s.part.directory, e.1 ≠ sym) ∧
      (priceStep = 8 ∨ priceStep = 16 ∨ priceStep = 32 ∨ priceStep = 64) :=
    and_congr_right fun _ => and_congr_right fun _ => isPriceStep_toNat priceStep
  refine ⟨s.onPart (Part.itemRead (sym.bytes ++ [home, priceStep, fl])), rfl, rfl, ?_⟩
  rw [State.onPart_part, hread]
  by_cases h : s.part.Accepts x
  · rw [if_pos (hgrounds.mp h), Part.takeInstrument_of_accepts h, Part.warnIf_eq]
    obtain ⟨hw, hnew, -⟩ := h
    refine ⟨rfl, ?_, ?_, ?_, ?_, ?_⟩
    · simp [Part.onLoader, x, isStation_iff]
    · exact (lookupSymbol_insertSymbol _ sym hw hnew).trans (if_pos rfl)
    · intro y hy
      exact (lookupSymbol_insertSymbol _ y hw hnew).trans (if_neg hy)
    · exact insertSymbol_sorted _ hnew
    · simp [Part.onLoader, x]
  · rw [if_neg (fun hc => h (hgrounds.mpr hc)), Part.takeInstrument_of_not_accepts h, Part.warnIf_eq]
    exact ⟨rfl, rfl, rfl, rfl⟩

end Sys2Proof.Machine
end

section
/-! The arithmetic of prices and the widths of the fields formed from them (R29 to R35). -/

namespace Sys2Proof.Machine

/-! ### Decomposition (R29) -/

theorem wholePart_le {p : Nat} (h : p ≤ 639999) : wholePart p ≤ 9999 := by
  unfold wholePart
  omega

theorem sixtyFourths_le (p : Nat) : sixtyFourths p ≤ 63 := by
  unfold sixtyFourths
  omega

theorem wholePart_mul_add_sixtyFourths (p : Nat) : wholePart p * 64 + sixtyFourths p = p :=
  Nat.div_add_mod' p 64

/-- Halving stops at an odd numerator over a power of two above 1, with the value kept: the numerator is below the
denominator, so it cannot stay even for as many halvings as the denominator has. -/
theorem reduceFraction_spec (k n : Nat) (hpos : 0 < n) (hlt : n < 2 ^ k) :
    (reduceFraction k n (2 ^ k)).1 % 2 = 1 ∧
      ∃ j, 1 ≤ j ∧ j ≤ k ∧ (reduceFraction k n (2 ^ k)).2 = 2 ^ j ∧
        (reduceFraction k n (2 ^ k)).1 * 2 ^ k = n * 2 ^ j := by
  induction k generalizing n with
  | zero => omega
  | succ k ih =>
    rw [reduceFraction]
    split
    · rename_i heven
      have hhalf : 2 ^ (k + 1) / 2 = 2 ^ k := by omega
      obtain ⟨hodd, j, h1, hk, hden, hval⟩ := ih (n / 2) (by omega) (by omega)
      rw [hhalf]
      refine ⟨hodd, j, h1, by omega, hden, ?_⟩
      calc (reduceFraction k (n / 2) (2 ^ k)).1 * 2 ^ (k + 1)
          = 2 * ((reduceFraction k (n / 2) (2 ^ k)).1 * 2 ^ k) := by ring
        _ = 2 * (n / 2) * 2 ^ j := by rw [hval, mul_assoc]
        _ = n * 2 ^ j := by rw [Nat.mul_div_cancel' (Nat.dvd_of_mod_eq_zero heven)]
    · exact ⟨by omega, k + 1, by omega, le_rfl, rfl, rfl⟩

/-- R29: the reduced fraction of a price. -/
theorem reduced_spec {p : Nat} (h : 0 < sixtyFourths p) :
    (reduced p).1 % 2 = 1 ∧ (reduced p).2 ∈ [2, 4, 8, 16, 32, 64] ∧
      (reduced p).1 * 64 = sixtyFourths p * (reduced p).2 := by
  have hF := sixtyFourths_le p
  obtain ⟨hodd, j, h1, h6, hden, hval⟩ := reduceFraction_spec 6 (sixtyFourths p) h (by omega)
  refine ⟨hodd, ?_, hval.trans (by rw [← hden]; rfl)⟩
  rw [show (reduced p).2 = 2 ^ j from hden]
  interval_cases j <;> decide

/-- R29: a reduced denominator of 8 or less makes the fraction a count of eighths. -/
theorem eighths_of_reduced {p : Nat} (h : 0 < sixtyFourths p) (hd : (reduced p).2 ≤ 8) :
    (reduced p).1 * (8 / (reduced p).2) * 8 = sixtyFourths p := by
  obtain ⟨-, hden, hval⟩ := reduced_spec h
  simp only [List.mem_cons, List.not_mem_nil, or_false] at hden
  rcases hden with hden | hden | hden | hden | hden | hden <;> rw [hden] at hd hval ⊢ <;> omega

theorem changeSize_le {last prev n : Nat} (hl : last ≤ n) (hp : prev ≤ n) : changeSize last prev ≤ n := by
  unfold changeSize
  split <;> omega

/-- Settles O58: the halving gives a fraction of the same value, whose denominator decides the glyph. -/
theorem fractionReduced : Obligations.FractionReduced := by
  refine ⟨fun p hp => ⟨wholePart_le hp, sixtyFourths_le p, (wholePart_mul_add_sixtyFourths p).symm, ?_⟩,
    fun last prev hl hc => changeSize_le hl hc⟩
  intro hF
  obtain ⟨hodd, hden, hval⟩ := reduced_spec hF
  refine ⟨hodd, hden, hval, fun hd => ?_, fun hd => ?_⟩
  · have he := eighths_of_reduced hF hd
    have hle := sixtyFourths_le p
    exact ⟨_, by omega, by omega, he, rfl⟩
  · simp [hasCompact, hd, Nat.ne_of_gt hF]

/-! ### Lengths of numbers and of the forms of a price (R30, R31) -/

theorem digitsOnto_length_le (fuel n k : Nat) (acc : List Glyph) (h : n < 10 ^ (k + 1)) :
    (digitsOnto fuel n acc).length ≤ k + 1 + acc.length := by
  induction fuel generalizing n k acc with
  | zero => simp [digitsOnto]
  | succ fuel ih =>
    rw [digitsOnto]
    split
    · simp only [List.length_cons]
      omega
    · cases k with
      | zero => omega
      | succ k =>
        have hrest := ih (n / 10) k (digitGlyph n :: acc) (by omega)
        simp only [List.length_cons] at hrest
        omega

theorem digits_length_le (k : Nat) {n : Nat} (h : n < 10 ^ (k + 1)) : (digits n).length ≤ k + 1 :=
  digitsOnto_length_le (n + 1) n k [] h

/-- R30: the longest fraction is 63/64. -/
theorem fractionText_reduced_length_le {p : Nat} (h : 0 < sixtyFourths p) :
    (fractionText (reduced p)).length ≤ 5 := by
  obtain ⟨-, hden, hval⟩ := reduced_spec h
  have hle := sixtyFourths_le p
  have hd : (reduced p).2 < 10 ^ 2 := by
    simp only [List.mem_cons, List.not_mem_nil, or_false] at hden
    omega
  have hn : (reduced p).1 < 10 ^ 2 := by
    have : sixtyFourths p * (reduced p).2 ≤ 63 * (reduced p).2 := Nat.mul_le_mul_right _ hle
    omega
  have h1 := digits_length_le 1 hn
  have h2 := digits_length_le 1 hd
  simp only [fractionText, List.length_append, List.length_cons, List.length_nil]
  omega

theorem digits_wholePart_length_le {p : Nat} (h : p ≤ 639999) : (digits (wholePart p)).length ≤ 4 := by
  have := wholePart_le h
  exact digits_length_le 3 (by omega)

theorem fullForm_length_le {p : Nat} (h : p ≤ 639999) : (fullForm p).length ≤ 10 := by
  have hw := digits_wholePart_length_le h
  unfold fullForm
  split
  · omega
  · rename_i hF
    have hf := fractionText_reduced_length_le (Nat.pos_of_ne_zero hF)
    split
    · omega
    · simp only [List.length_append, List.length_cons, List.length_nil]
      omega

theorem compactForm_length_le {p : Nat} (h : p ≤ 639999) : (compactForm p).length ≤ 5 := by
  have hw := digits_wholePart_length_le h
  unfold compactForm
  split
  · omega
  · split
    · simp
    · simp only [List.length_append, List.length_cons, List.length_nil]
      omega

/-! ### Fields (R32 to R36) -/

@[simp] theorem blanks_length (w : Nat) : (blanks w).length = w :=
  List.length_replicate

theorem rightAlign_length {w : Nat} {text : List Glyph} (h : text.length ≤ w) : (rightAlign w text).length = w := by
  simp only [rightAlign, List.length_append, blanks_length]
  omega

/-- R32, R34: the longer text where it fits, else the shorter where it fits, else asterisks: each fills the field. -/
theorem fitted_length (w : Nat) (long short : List Glyph) :
    (if long.length ≤ w then rightAlign w long
      else if short.length ≤ w then rightAlign w short
      else List.replicate w starGlyph).length = w := by
  split
  · exact rightAlign_length ‹_›
  · split
    · exact rightAlign_length ‹_›
    · exact List.length_replicate

theorem fitSigned_length (sign : List Glyph) (p w : Nat) : (fitSigned sign p w).text.length = w := by
  simp only [fitSigned, apply_ite Fitted.text]
  exact fitted_length w _ _

theorem fitPrice_length (p : Option Nat) (w : Nat) : (fitPrice p w).text.length = w := by
  cases p with
  | none => exact blanks_length w
  | some p => exact fitSigned_length [] p w

/-- R33: UNCH takes 4 cells and the digit 0 takes one. -/
theorem fitChange_length (last prev : Option Nat) {w : Nat} (hw : 1 ≤ w) : (fitChange last prev w).text.length = w := by
  unfold fitChange
  split
  · split
    · refine rightAlign_length ?_
      split
      · assumption
      · exact hw
    · exact fitSigned_length _ _ w
  · exact blanks_length w

theorem fitVolume_length (v : Nat) (saturated : Bool) (w : Nat) : (fitVolume v saturated w).length = w :=
  fitted_length w _ _

theorem symbolField_length (s : Symbol) (w : Nat) : (symbolField s w).length = w := by
  simp only [symbolField, padTo, List.length_append, List.length_take, blanks_length]
  omega

/-- A width that a field of this kind can have (R94): the MARK and the ARROW have one cell. -/
def FieldKind.Fits (k : FieldKind) (w : Nat) : Prop :=
  1 ≤ w ∧ (k = .mark ∨ k = .arrow → w = 1)

theorem fieldText_length (s : Symbol) (d : Displayed) {k : FieldKind} {w : Nat} (h : k.Fits w) :
    (fieldText s d k w).text.length = w := by
  obtain ⟨hw, hone⟩ := h
  cases k with
  | symbol => exact symbolField_length s w
  | last | bid | ask | high | low => exact fitPrice_length _ w
  | change => exact fitChange_length _ _ hw
  | volume => exact fitVolume_length _ _ w
  | mark => exact (hone (.inl rfl)).symm
  | arrow => exact (hone (.inr rfl)).symm

theorem fittedCells_length (f : Fitted) : (fittedCells f).length = f.text.length := by
  unfold fittedCells
  simp only
  split <;> simp

theorem fieldCells_length (s : Symbol) (d : Displayed) (flash : Bool) {k : FieldKind} {w : Nat} (h : k.Fits w) :
    (fieldCells s d flash k w).length = w := by
  unfold fieldCells
  split
  · exact (h.2 (.inr rfl)).symm
  · exact (fittedCells_length _).trans (fieldText_length s d h)

theorem layoutCells_length (s : Symbol) (d : Displayed) (flash : Bool) {fs : List (FieldKind × Nat)}
    (h : ∀ f ∈ fs, f.1.Fits f.2) : (layoutCells s d flash fs).length = (Layout.fields fs).width := by
  rw [layoutCells, List.length_flatMap, Layout.width,
    List.map_congr_left fun f hf => fieldCells_length s d flash (h f hf)]

/-- Settles O59, from the lengths of the forms and of each field. -/
theorem fieldsFillTheirWidth : Obligations.FieldsFillTheirWidth :=
  ⟨fun _ hp => ⟨fullForm_length_le hp, fun _ => compactForm_length_le hp⟩,
    fun p q w => ⟨fitPrice_length p w, fitChange_length p q⟩,
    fitVolume_length,
    fun sym d flash _ hfs => layoutCells_length sym d flash hfs⟩

end Sys2Proof.Machine
end

section
/-! The lag of a print (R44): its minutes, its sampling (R138, R139), and the trade time of a merged entry (R122). -/

namespace Sys2Proof.Machine

/-! ### Minutes (R44) -/

theorem lagMinutes_le (now trade : Nat) : lagMinutes now trade ≤ 99 := by
  simp only [lagMinutes]
  split
  · exact Nat.zero_le 99
  · exact min_le_right _ _

theorem lagMinutes_of_le {now trade s : Nat} (h : (now + 86400 - trade) % 86400 = s) (hs : s ≤ 43200) :
    lagMinutes now trade = min (s / 60) 99 := by
  simp only [lagMinutes, h]
  exact if_neg (Nat.not_lt.mpr hs)

theorem lagMinutes_of_gt {now trade s : Nat} (h : (now + 86400 - trade) % 86400 = s) (hs : 43200 < s) :
    lagMinutes now trade = 0 := by
  simp only [lagMinutes, h]
  exact if_pos hs

/-! ### Merging and sampling (R122, R138) -/

/-- R122: a trade time up to half a day before the entry's is the older. -/
theorem olderTrade_of_before {x t : Nat} (hlt : t < x) (hd : x - t ≤ 43200) : olderTrade x t = t :=
  if_pos (by omega)

/-- R122: a trade time less than half a day after the entry's is the newer. -/
theorem olderTrade_of_after {x t : Nat} (hlt : x < t) (hd : t - x < 43200) : olderTrade x t = x :=
  if_neg (by omega)

theorem olderTrade_or (x t : Nat) : olderTrade x t = x ∨ olderTrade x t = t :=
  (ite_eq_or_eq _ t x).symm

@[simp] theorem Tape.makeEntry_tapeLag (band : Band) (content : EntryContent) (t : Tape) :
    (t.makeEntry band content).rib.tapeLag = t.rib.tapeLag := by
  unfold Tape.makeEntry
  split
  · rfl
  · cases band <;> rfl

/-- An announcement leaves the tape lag that was measured (R139). -/
@[simp] theorem Tape.announce_tapeLag (threshold m : Nat) (t : Tape) :
    (t.announce threshold m).rib.tapeLag = t.rib.tapeLag := by
  unfold Tape.announce
  split
  · rfl
  · split
    · split
      · rfl
      · exact t.makeEntry_tapeLag _ _
    · split
      · exact t.makeEntry_tapeLag _ _
      · rfl

/-- R138: the print at which the countdown ends is measured. -/
theorem Tape.sample_tapeLag {env : TapeEnv} {t : Tape} {now : Nat} (trade : Nat) (hnow : env.now = some now)
    (hlast : t.rib.countdown = 1) : (t.sample env trade).rib.tapeLag = lagMinutes now trade := by
  simp [Tape.sample, hnow, hlast]

/-- Settles O60: the seconds are taken on the trade's own day or across one midnight. -/
theorem lagOfPrint : Obligations.LagOfPrint := by
  refine ⟨fun now trade hnow htrade => ?_, fun p t now trade hclock hlast => ?_,
    fun x price volume trade _ _ => ?_⟩
  · have sameDay (h : trade ≤ now) : (now + 86400 - trade) % 86400 = now - trade := by omega
    have dayBefore (h : now < trade) : (now + 86400 - trade) % 86400 = now + 86400 - trade := by omega
    exact ⟨lagMinutes_le now trade, fun h => lagMinutes_of_le (sameDay h), fun h => lagMinutes_of_gt (sameDay h),
      fun h => lagMinutes_of_le (dayBefore h), fun h => lagMinutes_of_gt (dayBefore h)⟩
  · exact Tape.sample_tapeLag trade (congrArg (Option.map TimeOfDay.seconds) hclock) hlast
  · exact ⟨olderTrade_or _ _, olderTrade_of_before, olderTrade_of_after⟩

end Sys2Proof.Machine
end

section
/-! The Formatter's service of its requesters (R25 to R27), and the number that an OMITTED notice takes (R126). -/

namespace Sys2Proof.Machine

/-! ### Requests and arbitration (R25, R26) -/

/-- The terminals before and after one of them. -/
theorem allTerminals_split (d : TerminalId) :
    allTerminals = allTerminals.filter (· < d) ++ d :: allTerminals.filter (d < ·) := by
  revert d
  decide

/-- R26: the search passes the terminals that do not wait and stops at the first that does. -/
theorem findSome?_searchOrder {α : Type} (g : TerminalId → Option α) {last d : TerminalId} {a : α}
    (hfound : g (last + 1 + d) = some a) (hbefore : ∀ e, e < d → g (last + 1 + e) = none) :
    (searchOrder last).findSome? g = some a := by
  rw [searchOrder, List.findSome?_map]
  refine List.findSome?_eq_some_iff.mpr ⟨_, d, _, allTerminals_split d, hfound, fun e he => ?_⟩
  exact hbefore e (by simpa using (List.mem_filter.mp he).2)

section
variable {f : Formatter}

theorem Formatter.pick_ribbon {slot : Nat} (h : f.ribbonWait = some slot) :
    f.pick = some (.ribbon slot, { f with ribbonWait := none }) := by
  simp [Formatter.pick, h]

theorem Formatter.pick_board {k : Nat} (hr : f.ribbonWait = none) (h : f.boardWait = some k) :
    f.pick = some (.board k, { f with boardWait := none }) := by
  simp [Formatter.pick, hr, h]

theorem Formatter.pick_terminal {d : TerminalId} {job : TermJob} (hr : f.ribbonWait = none)
    (hb : f.boardWait = none) (h : f.termWait.get (f.lastServed + 1 + d) = some job)
    (hbefore : ∀ e, e < d → f.termWait.get (f.lastServed + 1 + e) = none) :
    f.pick = some (.terminal (f.lastServed + 1 + d) job,
      { f with termWait := f.termWait.set (f.lastServed + 1 + d).val none (f.lastServed + 1 + d).isLt }) := by
  simp only [Formatter.pick, hr, hb]
  exact findSome?_searchOrder _ (by rw [h]; rfl) fun e he => by rw [hbefore e he]; rfl

theorem Formatter.pick_none (hr : f.ribbonWait = none) (hb : f.boardWait = none)
    (h : ∀ t, f.termWait.get t = none) : f.pick = none := by
  simp [Formatter.pick, hr, hb, h]

end

section
variable {p : Part}

/-- R26: the request picked begins. -/
theorem Part.endFormation_of_pick {r : Request} {f : Formatter}
    (h : ({ p.formatter with forming := none } : Formatter).pick = some (r, f)) :
    p.endFormation = ({ p with formatter := f } : Part).beginFormation r := by
  simp only [Part.endFormation, h]

/-- R25: with no request waiting the Formatter is IDLE. -/
theorem Part.endFormation_of_none (h : ({ p.formatter with forming := none } : Formatter).pick = none) :
    p.endFormation = { p with formatter := { p.formatter with forming := none } } := by
  simp only [Part.endFormation, h]

/-- R25: a request begins only while the Formatter is IDLE. -/
theorem Part.not_idle_of_forming (h : p.formatter.forming.isSome = true) : ¬ p.formatter.forming.isNone = true := by
  simpa [Option.isSome_iff_ne_none] using h

end

/-! ### The number of an OMITTED notice (R126) -/

section
variable {r : Ribbon} {slot : Nat}

theorem Ribbon.slot_of_entry {e : Entry} (h : r.entry slot = some e) : e.slot = slot := by
  simpa using List.find?_some h

/-- Entries rewritten in place, their slots kept, stand under the slots that they had. -/
theorem Ribbon.modifyEntry_entry {f : Entry → Entry} (hf : ∀ e, (f e).slot = e.slot) (k : Nat) :
    (r.modifyEntry slot f).entry k = (r.entry k).map fun e => if e.slot = slot then f e else e := by
  have hslot (e : Entry) : (if e.slot = slot then f e else e).slot = e.slot := by
    split
    · exact hf e
    · rfl
  simp only [Ribbon.entry, Ribbon.modifyEntry_urgent, Ribbon.modifyEntry_routine, ← List.map_append, List.find?_map]
  congr 2
  funext e
  simp only [Function.comp, hslot]

theorem Ribbon.modifyEntry_entry_self {f : Entry → Entry} (hf : ∀ e, (f e).slot = e.slot) {e : Entry}
    (h : r.entry slot = some e) : (r.modifyEntry slot f).entry slot = some (f e) := by
  rw [Ribbon.modifyEntry_entry hf, h, Option.map_some, if_pos (Ribbon.slot_of_entry h)]

theorem Ribbon.modifyEntry_entry_of_ne {f : Entry → Entry} (hf : ∀ e, (f e).slot = e.slot) {k : Nat}
    (hk : k ≠ slot) : (r.modifyEntry slot f).entry k = r.entry k := by
  rw [Ribbon.modifyEntry_entry hf]
  cases h : r.entry k with
  | none => rfl
  | some e =>
    have hne : e.slot ≠ slot := fun he => hk ((Ribbon.slot_of_entry h).symm.trans he)
    rw [Option.map_some, if_neg hne]

/-- An OMITTED notice with the number that it takes. -/
def Entry.bound (n : Nat) (e : Entry) : Entry :=
  { e with content := .omitted (some n) }

theorem Entry.isUnbound_iff (e : Entry) : e.isUnbound = true ↔ e.content = .omitted none :=
  beq_iff_eq

theorem Ribbon.bindOmitted_of_unbound {e : Entry} (h : r.entry slot = some e) (hu : e.content = .omitted none) :
    r.bindOmitted slot = { r.modifyEntry slot (Entry.bound r.omitted) with omitted := 0 } := by
  simp only [Ribbon.bindOmitted, h]
  exact if_pos (e.isUnbound_iff.mpr hu)

theorem Ribbon.bindOmitted_of_other {e : Entry} (h : r.entry slot = some e) (hu : e.content ≠ .omitted none) :
    r.bindOmitted slot = r := by
  simp only [Ribbon.bindOmitted, h]
  exact if_neg fun hc => hu (e.isUnbound_iff.mp hc)

/-- The binding keeps the slots of the backlog in their order (R126). -/
theorem Ribbon.bindOmitted_backlog_slots (r : Ribbon) (slot : Nat) :
    ((r.bindOmitted slot).urgent ++ (r.bindOmitted slot).routine).map Entry.slot =
      (r.urgent ++ r.routine).map Entry.slot := by
  obtain ⟨hslots, -, -, -, hfree⟩ := r.bindOmitted_spec slot
  simpa [Ribbon.slots, hfree] using hslots

end

/-- Settles O35: the pick is followed case by case, and the text does not read the Formatter. -/
theorem formatterServesInOrder : Obligations.FormatterServesInOrder := by
  refine ⟨fun p h => ?_, fun p => ?_, fun r slot e he => ?_⟩
  · have hbusy := Part.not_idle_of_forming h
    exact ⟨fun _ => if_neg hbusy, fun _ => if_neg hbusy, fun _ _ => if_neg hbusy⟩
  · refine ⟨fun slot h => ?_, fun hr k h => ?_, fun hr hb => ⟨fun d job h hbefore => ?_, fun h => ?_⟩⟩
    · exact Part.endFormation_of_pick (Formatter.pick_ribbon h)
    · exact Part.endFormation_of_pick (Formatter.pick_board hr h)
    · exact Part.endFormation_of_pick (Formatter.pick_terminal hr hb h hbefore)
    · exact Part.endFormation_of_none (Formatter.pick_none hr hb h)
  · obtain ⟨-, -, -, -, hfree⟩ := r.bindOmitted_spec slot
    refine ⟨fun hu => ⟨?_, ?_, hfree, r.bindOmitted_backlog_slots slot, ?_⟩,
      Ribbon.bindOmitted_of_other he⟩
    · rw [Ribbon.bindOmitted_of_unbound he hu]
      exact Ribbon.modifyEntry_entry_self (f := Entry.bound r.omitted) (fun _ => rfl) he
    · rw [Ribbon.bindOmitted_of_unbound he hu]
    · intro other hne
      rw [Ribbon.bindOmitted_of_unbound he hu]
      exact Ribbon.modifyEntry_entry_of_ne (f := Entry.bound r.omitted) (fun _ => rfl) hne

end Sys2Proof.Machine
end

section
/-! The Recall Unit's books (R12, R45, R48, R49): which lists agree with the recall states, and which frames the slots
await. -/

namespace Sys2Proof.Machine

/-! ### A list of the records in one recall state (R45, R48) -/

/-- The list holds each record of the recall state `x`, once, and no other. -/
def Collects (st : Nat → Option RecallState) (x : RecallState) (l : List Nat) : Prop :=
  l.Nodup ∧ ∀ i, i ∈ l ↔ st i = some x

namespace Collects

variable {st : Nat → Option RecallState} {x y : RecallState} {l l' : List Nat} {i : Nat}

theorem perm (h : Collects st x l) (hl : l'.Perm l) : Collects st x l' :=
  ⟨hl.nodup_iff.mpr h.1, fun j => hl.mem_iff.trans (h.2 j)⟩

theorem not_mem (h : Collects st x l) (hi : st i ≠ some x) : i ∉ l :=
  fun hm => hi ((h.2 i).mp hm)

/-- A record that enters the state joins the list. -/
theorem cons (h : Collects st x l) (hi : st i ≠ some x) : Collects (Function.update st i (some x)) x (i :: l) := by
  refine ⟨List.nodup_cons.mpr ⟨h.not_mem hi, h.1⟩, fun j => ?_⟩
  by_cases hj : j = i
  · simp [hj]
  · simp [hj, h.2 j]

theorem append (h : Collects st x l) (hi : st i ≠ some x) : Collects (Function.update st i (some x)) x (l ++ [i]) :=
  (h.cons hi).perm (List.perm_append_singleton i l)

/-- A record that leaves the state leaves the list. -/
theorem filter (h : Collects st x l) (hy : y ≠ x) : Collects (Function.update st i (some y)) x (l.filter (· != i)) := by
  refine ⟨h.1.filter _, fun j => ?_⟩
  by_cases hj : j = i
  · simp [hj, hy]
  · simp [hj, h.2 j]

/-- A record that is in another state before and after leaves the list as it was. -/
theorem keep (h : Collects st x l) (hi : st i ≠ some x) (hy : y ≠ x) :
    Collects (Function.update st i (some y)) x l := by
  have hf : l.filter (· != i) = l := by
    refine List.filter_eq_self.mpr fun j hj => ?_
    simpa using fun e : j = i => h.not_mem hi (e ▸ hj)
  exact hf ▸ h.filter hy

/-- The head of the list leaves the state. -/
theorem tail (h : Collects st x (i :: l)) (hy : y ≠ x) : Collects (Function.update st i (some y)) x l := by
  obtain ⟨hi, -⟩ := List.nodup_cons.mp h.1
  have hf : (i :: l).filter (· != i) = l := by
    rw [List.filter_cons_of_neg (by simp), List.filter_eq_self]
    exact fun j hj => by simpa using fun e : j = i => hi (e ▸ hj)
  exact hf ▸ h.filter hy

end Collects

/-! ### The frames that slots await (R49) -/

/-- R49 of slots, of a queue and of the age of the next frame. -/
def Awaits (slots : List Slot) (queue : List QueuedFrame) (next : Nat) : Prop :=
  (slots.filterMap Slot.awaited).Nodup ∧
    (∀ sl ∈ slots, ∀ age, sl.awaited = some age →
      age < next ∧ ∀ f ∈ queue, f.age = age → f.body = .recallFor sl.record) ∧
    ∀ f ∈ queue, f.age < next

theorem Part.awaitLaw_iff (p : Part) : p.AwaitLaw ↔ Awaits p.recalls.slots p.line.queue p.line.nextAge := Iff.rfl

theorem Slot.awaited_eq_some_iff {sl : Slot} {age : Nat} : sl.awaited = some age ↔ sl.phase = .awaitingOutcome age := by
  unfold Slot.awaited
  split <;> simp [*]

/-- The slot with its wait begun (R49, R53). -/
def Slot.stopped (sl : Slot) : Slot :=
  { sl with phase := .waiting }

@[simp] theorem Slot.stopped_awaited (sl : Slot) : sl.stopped.awaited = none := rfl

namespace Awaits

variable {slots slots' : List Slot} {queue queue' : List QueuedFrame} {next : Nat}

/-- Frames that leave the queue leave the law. -/
theorem of_subset (h : Awaits slots queue next) (hq : queue' ⊆ queue) : Awaits slots queue' next := by
  obtain ⟨hnd, hsl, hage⟩ := h
  refine ⟨hnd, fun sl hs age ha => ?_, fun f hf => hage f (hq hf)⟩
  obtain ⟨hlt, hbody⟩ := hsl sl hs age ha
  exact ⟨hlt, fun f hf => hbody f (hq hf)⟩

/-- Slots freed leave the law. -/
theorem of_sublist (h : Awaits slots queue next) (hs : slots'.Sublist slots) : Awaits slots' queue next := by
  obtain ⟨hnd, hsl, hage⟩ := h
  exact ⟨hnd.sublist (hs.filterMap _), fun sl hm => hsl sl (hs.subset hm), hage⟩

/-- Slots whose wait begins await nothing more. -/
theorem stop (c : Slot → Prop) [DecidablePred c] (h : Awaits slots queue next) :
    Awaits (slots.map fun sl => if c sl then sl.stopped else sl) queue next := by
  obtain ⟨hnd, hsl, hage⟩ := h
  have hsub (l : List Slot) :
      ((l.map fun sl => if c sl then sl.stopped else sl).filterMap Slot.awaited).Sublist
        (l.filterMap Slot.awaited) := by
    induction l with
    | nil => exact List.Sublist.refl _
    | cons sl l ih =>
      rw [List.map_cons, List.filterMap_cons, List.filterMap_cons]
      split_ifs with hc
      · cases sl.awaited with
        | none => exact ih
        | some age => exact ih.cons age
      · cases sl.awaited with
        | none => exact ih
        | some age => exact ih.cons_cons age
  refine ⟨hnd.sublist (hsub slots), fun sl hm age ha => ?_, hage⟩
  obtain ⟨sl₀, h₀, rfl⟩ := List.mem_map.mp hm
  split_ifs at ha ⊢ with hc
  · simp at ha
  · exact hsl sl₀ h₀ age ha

/-- A slot that is WAITING from its filling awaits nothing (R53). -/
theorem append_waiting (h : Awaits slots queue next) (i n : Nat) : Awaits (slots ++ [⟨i, n, .waiting⟩]) queue next := by
  obtain ⟨hnd, hsl, hage⟩ := h
  have hnone : [(⟨i, n, .waiting⟩ : Slot)].filterMap Slot.awaited = [] := rfl
  refine ⟨by rwa [List.filterMap_append, hnone, List.append_nil], fun sl hm age ha => ?_, hage⟩
  rcases List.mem_append.mp hm with hm | hm
  · exact hsl sl hm age ha
  · rw [List.mem_singleton.mp hm] at ha
    simp [Slot.awaited] at ha

/-- A frame joins: its age is new, so no slot awaits it. -/
theorem join (h : Awaits slots queue next) (b : TxBody) : Awaits slots (queue ++ [⟨next, b⟩]) (next + 1) := by
  obtain ⟨hnd, hsl, hage⟩ := h
  refine ⟨hnd, fun sl hs age ha => ?_, fun f hf => ?_⟩
  · obtain ⟨hlt, hbody⟩ := hsl sl hs age ha
    refine ⟨by omega, fun f hf he => ?_⟩
    rcases List.mem_append.mp hf with hf | hf
    · exact hbody f hf he
    · rw [List.mem_singleton.mp hf] at he
      simp only at he
      omega
  · rcases List.mem_append.mp hf with hf | hf
    · exact Nat.lt_succ_of_lt (hage f hf)
    · simp [List.mem_singleton.mp hf]

/-- A slot asks: its RECALL joins the queue with the slot awaiting it, and the other slots stand. -/
theorem ask {i : Nat} (h : Awaits slots queue next) (hnd : (slots'.filterMap Slot.awaited).Nodup)
    (hs : ∀ sl ∈ slots', sl ∈ slots ∨ sl.record = i ∧ sl.awaited = some next) :
    Awaits slots' (queue ++ [⟨next, .recallFor i⟩]) (next + 1) := by
  obtain ⟨-, hsl, hage⟩ := h.join (.recallFor i)
  refine ⟨hnd, fun sl hm age ha => ?_, hage⟩
  rcases hs sl hm with hm | ⟨hi, hn⟩
  · exact hsl sl hm age ha
  · obtain rfl : next = age := Option.some.inj (hn.symm.trans ha)
    refine ⟨by omega, fun f hf he => ?_⟩
    rcases List.mem_append.mp hf with hf | hf
    · exact absurd (h.2.2 f hf) (by omega)
    · rw [List.mem_singleton.mp hf, hi]

/-- R48: a slot filled anew asks. -/
theorem ask_new (h : Awaits slots queue next) (i : Nat) :
    Awaits (slots ++ [⟨i, 1, .awaitingOutcome next⟩]) (queue ++ [⟨next, .recallFor i⟩]) (next + 1) := by
  refine h.ask ?_ fun sl hm => ?_
  · rw [List.filterMap_append]
    refine List.nodup_append'.mpr ⟨h.1, List.nodup_singleton next, List.disjoint_singleton.mpr fun hm => ?_⟩
    obtain ⟨sl, hsl, ha⟩ := List.mem_filterMap.mp hm
    exact lt_irrefl _ (h.2.1 sl hsl next ha).1
  · rcases List.mem_append.mp hm with hm | hm
    · exact .inl hm
    · rw [List.mem_singleton.mp hm]
      exact .inr ⟨rfl, rfl⟩

end Awaits

/-! ### The books of a part -/

/-- R12: a record whose recall is pending or given up is doubtful. -/
def DoubtLaw (rs : List Record) : Prop :=
  ∀ r ∈ rs, r.recallState ≠ .none → r.shown.doubtful = true

/-- The Recall Unit's law of a running part. -/
structure Part.RecallBooks (p : Part) : Prop where
  listed : Collects p.recallStateOf .listed p.recalls.list
  slotted : Collects p.recallStateOf .outstanding (p.recalls.slots.map Slot.record)
  doubt : DoubtLaw p.records
  awaits : Awaits p.recalls.slots p.line.queue p.line.nextAge

theorem Part.recallBooks_iff (p : Part) : p.RecallBooks ↔ p.ListLaw ∧ p.AwaitLaw :=
  ⟨fun ⟨⟨hl, hl'⟩, ⟨hs, hs'⟩, hd, ha⟩ => ⟨⟨hl, hl', hs, hs', hd⟩, p.awaitLaw_iff.mpr ha⟩,
    fun ⟨⟨hl, hl', hs, hs', hd⟩, ha⟩ => ⟨⟨hl, hl'⟩, ⟨hs, hs'⟩, hd, p.awaitLaw_iff.mp ha⟩⟩

/-- A change that keeps the Recall Unit's law: the load and the directory stand, no record comes or goes, and the books
stay in order. -/
structure Part.KeepsRecall (p q : Part) : Prop where
  loader : q.loader = p.loader
  directory : q.directory = p.directory
  size : q.records.length = p.records.length
  books : p.RecallBooks → q.RecallBooks

namespace Part.KeepsRecall

variable {p q r : Part}

theorem refl (p : Part) : p.KeepsRecall p := ⟨rfl, rfl, rfl, id⟩

theorem trans (h : p.KeepsRecall q) (h' : q.KeepsRecall r) : p.KeepsRecall r :=
  ⟨h'.loader.trans h.loader, h'.directory.trans h.directory, h'.size.trans h.size, h'.books ∘ h.books⟩

theorem recallLaw (h : p.KeepsRecall q) (hp : p.RecallLaw) : q.RecallLaw := by
  obtain ⟨hdir, hrun⟩ := hp
  refine ⟨by rw [h.directory, h.size]; exact hdir, fun hq => ?_⟩
  rw [Part.running, h.loader] at hq
  exact q.recallBooks_iff.mp (h.books (p.recallBooks_iff.mpr (hrun hq)))

end Part.KeepsRecall

/-! ### What the law reads -/

/-- The recall state and the doubt of a record. -/
def Record.recallMark (r : Record) : RecallState × Bool :=
  (r.recallState, r.shown.doubtful)

/-- All that the Recall Unit's law reads of a part. -/
structure RecallView where
  loader : Loader
  directory : List (Symbol × Nat)
  marks : List (RecallState × Bool)
  list : List Nat
  slots : List Slot
  queue : List QueuedFrame
  nextAge : Nat

def Part.recallView (p : Part) : RecallView :=
  { loader := p.loader, directory := p.directory, marks := p.records.map Record.recallMark, list := p.recalls.list,
    slots := p.recalls.slots, queue := p.line.queue, nextAge := p.line.nextAge }

theorem Part.recallStateOf_eq_marks (p : Part) (i : Nat) :
    p.recallStateOf i = (p.recallView.marks[i]?).map Prod.fst := by
  simp [Part.recallStateOf, Part.recallView, Record.recallMark, Function.comp_def]

theorem doubtLaw_iff_marks (rs : List Record) :
    DoubtLaw rs ↔ ∀ m ∈ rs.map Record.recallMark, m.1 ≠ .none → m.2 = true := by
  simp [DoubtLaw, Record.recallMark]

namespace Part.KeepsRecall

variable {p q r : Part}

/-- A change that takes frames off the queue, the law seeing nothing else of it, keeps the law. -/
theorem of_fewer_frames (h : q.recallView = { p.recallView with queue := q.line.queue })
    (hq : q.line.queue ⊆ p.line.queue) : p.KeepsRecall q := by
  obtain ⟨hloader, hdir, hmarks, hlist, hslots, -, hage⟩ := RecallView.mk.inj h
  change _ = p.records.map Record.recallMark at hmarks
  have hst : q.recallStateOf = p.recallStateOf := by
    funext i
    rw [Part.recallStateOf_eq_marks, Part.recallStateOf_eq_marks, h]
  refine ⟨hloader, hdir, by simpa using congrArg List.length hmarks, fun hp => ⟨?_, ?_, ?_, ?_⟩⟩
  · rw [hst, hlist]
    exact hp.listed
  · rw [hst, hslots]
    exact hp.slotted
  · rw [doubtLaw_iff_marks, hmarks, ← doubtLaw_iff_marks]
    exact hp.doubt
  · rw [hslots, hage]
    exact hp.awaits.of_subset hq

/-- A change that the law does not see keeps it. -/
theorem of_view (h : q.recallView = p.recallView) : p.KeepsRecall q := by
  have hq : q.line.queue = p.line.queue := congrArg RecallView.queue h
  exact of_fewer_frames (by rw [h, hq]; rfl) (hq ▸ List.Subset.refl _)

theorem unseen (h : p.KeepsRecall q) (hv : r.recallView = q.recallView) : p.KeepsRecall r :=
  h.trans (of_view hv)

end Part.KeepsRecall

end Sys2Proof.Machine
end

section
/-! The Recall Unit's operations keep its books (R12, R46 to R53, R60, R62, R70). -/

namespace Sys2Proof.Machine

/-! ### One record moved to another recall state -/

section
variable {p q : Part} {i : Nat} {r r' : Record} {x y : RecallState}

theorem Part.recallStateOf_eq_some_iff :
    p.recallStateOf i = some x ↔ ∃ r, p.records[i]? = some r ∧ r.recallState = x := by
  simp [Part.recallStateOf]

theorem Part.recallStateOf_of_set (hr : p.records[i]? = some r) (he : q.records = p.records.set i r') :
    q.recallStateOf = Function.update p.recallStateOf i (some r'.recallState) := by
  funext j
  by_cases hj : j = i
  · subst hj
    simp [Part.recallStateOf, he, List.getElem?_set_self', hr]
  · simp [Part.recallStateOf, he, hj, List.getElem?_set_ne (Ne.symm hj)]

theorem DoubtLaw.set {rs : List Record} (h : DoubtLaw rs) (hr : r.recallState ≠ .none → r.shown.doubtful = true) :
    DoubtLaw (rs.set i r) := by
  intro x hx
  rcases List.mem_or_eq_of_mem_set hx with hx | rfl
  · exact h x hx
  · exact hr

/-- The books after one record is written. -/
theorem Part.RecallBooks.of_set (h : p.RecallBooks) (hr : p.records[i]? = some r)
    (he : q.records = p.records.set i r') (hd : r'.recallState ≠ .none → r'.shown.doubtful = true)
    (hlist : Collects (Function.update p.recallStateOf i (some r'.recallState)) .listed q.recalls.list)
    (hslots : Collects (Function.update p.recallStateOf i (some r'.recallState)) .outstanding
      (q.recalls.slots.map Slot.record))
    (ha : Awaits q.recalls.slots q.line.queue q.line.nextAge) : q.RecallBooks := by
  rw [← Part.recallStateOf_of_set hr he] at hlist hslots
  exact ⟨hlist, hslots, he ▸ h.doubt.set hd, ha⟩

/-- The books after a record with a recall takes another recall state. -/
theorem Part.RecallBooks.of_move (h : p.RecallBooks) (hi : p.recallStateOf i = some y) (hy : y ≠ .none)
    (he : q.records = p.records.modify i fun r => { r with recallState := x })
    (hlist : Collects (Function.update p.recallStateOf i (some x)) .listed q.recalls.list)
    (hslots : Collects (Function.update p.recallStateOf i (some x)) .outstanding (q.recalls.slots.map Slot.record))
    (ha : Awaits q.recalls.slots q.line.queue q.line.nextAge) : q.RecallBooks := by
  obtain ⟨r, hr, rfl⟩ := Part.recallStateOf_eq_some_iff.mp hi
  rw [modify_eq_set_of_getElem? _ hr] at he
  exact h.of_set hr he (fun _ => h.doubt r (List.mem_of_getElem? hr) hy) hlist hslots ha

/-- R45: a record on the list is LISTED. -/
theorem Part.RecallBooks.listed_of_mem (h : p.RecallBooks) (hi : i ∈ p.recalls.list) :
    p.recallStateOf i = some .listed :=
  (h.listed.2 i).mp hi

/-- R48: a record with a slot is OUTSTANDING. -/
theorem Part.RecallBooks.outstanding_of_mem (h : p.RecallBooks) {sl : Slot} (hsl : sl ∈ p.recalls.slots) :
    p.recallStateOf sl.record = some .outstanding :=
  (h.slotted.2 _).mp (List.mem_map_of_mem hsl)

theorem Part.RecallBooks.outstanding_of_find? (h : p.RecallBooks) {sl : Slot}
    (hf : p.recalls.slots.find? (fun sl => sl.record == i) = some sl) : p.recallStateOf i = some .outstanding := by
  have hi : sl.record = i := by simpa using List.find?_some hf
  exact hi ▸ h.outstanding_of_mem (List.mem_of_find?_eq_some hf)

end

/-- The slot of the record leaves the slots (R48, R51). -/
theorem Collects.free_slot {st : Nat → Option RecallState} {slots : List Slot} {i : Nat} {y : RecallState}
    (h : Collects st .outstanding (slots.map Slot.record)) (hy : y ≠ .outstanding) :
    Collects (Function.update st i (some y)) .outstanding
      ((slots.filter fun sl => sl.record != i).map Slot.record) := by
  have hf := h.filter (i := i) hy
  rwa [List.filter_map] at hf

/-! ### Frames that join, are taken and are displaced (R49, R70, R71) -/

section
variable (p : Part)

theorem Part.takeFrame_keepsRecall : p.KeepsRecall p.takeFrame := by
  obtain ⟨l, h, -, -, -, hage, hq⟩ := p.takeFrame_spec
  rw [h]
  exact .of_fewer_frames (by simp [Part.recallView, hage]) hq

variable {p} in
theorem Part.KeepsRecall.takeFrame {q : Part} (h : p.KeepsRecall q) : p.KeepsRecall q.takeFrame :=
  h.trans q.takeFrame_keepsRecall

theorem Part.joinQueue_keepsRecall (b : TxBody) : p.KeepsRecall (p.joinQueue b) := by
  refine Part.KeepsRecall.takeFrame ?_
  exact ⟨rfl, rfl, rfl, fun h => ⟨h.listed, h.slotted, h.doubt, h.awaits.join b⟩⟩

/-- While the slots are in order, the slot that awaits a queued RECALL is the one of the RECALL's record. -/
theorem Part.RecallBooks.awaiting_iff {p : Part} (h : p.RecallBooks) {f : QueuedFrame} {i : Nat}
    (hf : f ∈ p.line.queue) (hb : f.body = .recallFor i)
    (hany : (p.recalls.slots.any fun sl => sl.phase == .awaitingOutcome f.age) = true) :
    ∀ sl ∈ p.recalls.slots, sl.phase = .awaitingOutcome f.age ↔ sl.record = i := by
  have key : ∀ sl ∈ p.recalls.slots, sl.phase = .awaitingOutcome f.age → sl.record = i := by
    intro sl hsl hph
    obtain ⟨-, hbody⟩ := h.awaits.2.1 sl hsl f.age (Slot.awaited_eq_some_iff.mpr hph)
    exact (TxBody.recallFor.inj (hb.symm.trans (hbody f hf rfl))).symm
  intro sl hsl
  refine ⟨key sl hsl, fun hi => ?_⟩
  obtain ⟨a, ha, hph⟩ := List.any_eq_true.mp hany
  have hph : a.phase = .awaitingOutcome f.age := by simpa using hph
  obtain rfl : sl = a := List.inj_on_of_nodup_map h.slotted.1 hsl ha (hi.trans (key a ha hph).symm)
  exact hph

/-- R49: a displaced RECALL frees its slot and lists its record again. -/
theorem Part.displaced_keepsRecall {f : QueuedFrame} (hf : f ∈ p.line.queue) : p.KeepsRecall (p.displaced f) := by
  unfold Part.displaced
  split
  · rename_i i hb
    split
    · rename_i hany
      refine ⟨rfl, rfl, by simp, fun h => ?_⟩
      have haw := h.awaiting_iff hf hb hany
      have hfree : (p.recalls.slots.filter fun sl => sl.phase != .awaitingOutcome f.age) =
          p.recalls.slots.filter fun sl => sl.record != i := by
        refine List.filter_congr fun sl hsl => ?_
        rw [Bool.eq_iff_iff]
        simpa using not_congr (haw sl hsl)
      obtain ⟨a, ha, hph⟩ := List.any_eq_true.mp hany
      have hout : p.recallStateOf i = some .outstanding :=
        (haw a ha).mp (by simpa using hph) ▸ h.outstanding_of_mem ha
      refine h.of_move hout nofun rfl ?_ ?_ (h.awaits.of_sublist List.filter_sublist)
      · exact h.listed.cons (by simp [hout])
      · show Collects _ _ ((p.recalls.slots.filter fun sl => sl.phase != .awaitingOutcome f.age).map Slot.record)
        rw [hfree]
        exact h.slotted.free_slot nofun
    · exact .refl p
  · exact .refl p

theorem Part.withdraw_keepsRecall (age : Nat) : p.KeepsRecall (p.withdraw age) :=
  .of_fewer_frames rfl (List.filter_subset_self _)

theorem Part.displaced_withdraw (f : QueuedFrame) (age : Nat) :
    (p.withdraw age).displaced f = (p.displaced f).withdraw age := by
  unfold Part.displaced
  split
  · rw [Part.withdraw_recalls]
    split <;> rfl
  · rfl

theorem mem_of_youngestLow {q : List QueuedFrame} {f : QueuedFrame} (h : youngestLow q = some f) : f ∈ q :=
  List.mem_reverse.mp (List.mem_of_find?_eq_some h)

theorem Part.offer_keepsRecall (b : TxBody) : p.KeepsRecall (p.offer b).1 := by
  unfold Part.offer
  split
  · exact p.joinQueue_keepsRecall b
  · split
    · split
      · rename_i f hf
        have hd : p.KeepsRecall ((p.withdraw f.age).displaced f) := by
          rw [Part.displaced_withdraw]
          exact (p.displaced_keepsRecall (mem_of_youngestLow hf)).trans (Part.withdraw_keepsRecall _ _)
        exact hd.trans (Part.joinQueue_keepsRecall _ b)
      · exact .refl p
    · exact .refl p

variable {p} in
theorem Part.KeepsRecall.offer {q : Part} (h : p.KeepsRecall q) (b : TxBody) : p.KeepsRecall (q.offer b).1 :=
  h.trans (q.offer_keepsRecall b)

end

/-! ### Recalls queued, re-sent and returned (R47 to R50) -/

/-- R50: the slot after a re-send. -/
def Slot.resent (age : Nat) (sl : Slot) : Slot :=
  { sl with sendCount := sl.sendCount + 1, phase := .awaitingOutcome age }

/-- R50: the slots with the one of record `i` sent again. -/
def resentSlots (i age : Nat) (slots : List Slot) : List Slot :=
  slots.map fun sl => if sl.record = i then sl.resent age else sl

/-- A change of slots that leaves each its record. -/
theorem map_record_of_keeps {f : Slot → Slot} (hf : ∀ sl, (f sl).record = sl.record) (slots : List Slot) :
    (slots.map f).map Slot.record = slots.map Slot.record := by
  rw [List.map_map]
  exact List.map_congr_left fun sl _ => hf sl

theorem resentSlots_map_record (i age : Nat) (slots : List Slot) :
    (resentSlots i age slots).map Slot.record = slots.map Slot.record :=
  map_record_of_keeps (fun sl => by split_ifs <;> rfl) slots

/-- The slots of the other records stand. -/
theorem resentSlots_filter (i age : Nat) (slots : List Slot) :
    ((resentSlots i age slots).filter fun sl => sl.record != i) = slots.filter fun sl => sl.record != i := by
  induction slots with
  | nil => rfl
  | cons sl slots ih =>
    rw [resentSlots] at ih ⊢
    by_cases h : sl.record = i
    · simpa [h, Slot.resent] using ih
    · simpa [h] using ih

theorem mem_resentSlots {i age : Nat} {slots : List Slot} {sl : Slot} (h : sl ∈ resentSlots i age slots) :
    sl ∈ slots ∨ sl.record = i ∧ sl.awaited = some age := by
  obtain ⟨sl₀, h₀, rfl⟩ := List.mem_map.mp h
  split_ifs with hi
  · exact .inr ⟨hi, rfl⟩
  · exact .inl h₀

/-- A re-send under a new age leaves the awaited ages distinct, as a record has one slot. -/
theorem Awaits.nodup_resentSlots {slots : List Slot} {queue : List QueuedFrame} {next : Nat}
    (h : Awaits slots queue next) (hrec : (slots.map Slot.record).Nodup) (i : Nat) :
    ((resentSlots i next slots).filterMap Slot.awaited).Nodup := by
  obtain ⟨hnd, hsl, -⟩ := h
  have hne (sl : Slot) (hm : sl ∈ slots) : sl.awaited ≠ some next := fun ha => lt_irrefl _ (hsl sl hm next ha).1
  have hboth := (List.pairwise_filterMap.mp hnd).and (List.pairwise_map.mp hrec)
  refine List.pairwise_filterMap.mpr (List.pairwise_map.mpr (hboth.imp_of_mem ?_))
  rintro a b ha hb ⟨hages, hrecs⟩ n hn m hm rfl
  split_ifs at hn hm with h1 h2 h2
  · exact hrecs (h1.trans h2.symm)
  · obtain rfl : next = n := Option.some.inj hn
    exact hne b hb hm
  · obtain rfl : next = n := Option.some.inj hm
    exact hne a ha hn
  · exact hages n hn n hm rfl

section
variable (p : Part)

/-- R48: a recall queued in a queue with room. -/
theorem Part.queueRecall_of_room (i : Nat) (h : p.line.queue.length < Config.queuePlaces) :
    p.queueRecall i = ({ p with
      recalls := { p.recalls with
        slots := p.recalls.slots ++ [⟨i, 1, .awaitingOutcome p.line.nextAge⟩]
        paceRunning := true }
      records := p.records.modify i fun r => { r with recallState := .outstanding }
      line := { p.line with
        queue := p.line.queue ++ [⟨p.line.nextAge, .recallFor i⟩]
        nextAge := p.line.nextAge + 1 } } : Part).takeFrame := by
  simp [Part.queueRecall, Part.offer, h, Part.joinQueue, Part.setRecallState, Part.modifyRecord]

/-- R48: a recall refused by a full queue goes back to the head of the list; the pace timer has started. -/
theorem Part.queueRecall_of_full (i : Nat) (h : ¬ p.line.queue.length < Config.queuePlaces) :
    p.queueRecall i = ({ p with recalls := { p.recalls with paceRunning := true } } : Part).returnToHead i := by
  have hclass : (TxBody.recallFor i).frameClass ≠ .urgent := nofun
  simp [Part.queueRecall, Part.offer, h, hclass, Part.returnToHead, Part.setRecallState, Part.modifyRecord,
    List.modify_modify_eq, Function.comp_def]

/-- R50: a re-send in a queue with room. -/
theorem Part.resend_of_room (i : Nat) (h : p.line.queue.length < Config.queuePlaces) :
    p.resend i = ({ p with
      recalls := { p.recalls with
        slots := resentSlots i p.line.nextAge p.recalls.slots
        paceRunning := true }
      line := { p.line with
        queue := p.line.queue ++ [⟨p.line.nextAge, .recallFor i⟩]
        nextAge := p.line.nextAge + 1 } } : Part).takeFrame := by
  simp [Part.resend, Part.offer, h, Part.joinQueue, resentSlots, Slot.resent]

/-- R50, R48: a re-send refused by a full queue. -/
theorem Part.resend_of_full (i : Nat) (h : ¬ p.line.queue.length < Config.queuePlaces) :
    p.resend i = ({ p with recalls := { p.recalls with paceRunning := true } } : Part).returnToHead i := by
  have hslots := resentSlots_filter i p.line.nextAge p.recalls.slots
  have hclass : (TxBody.recallFor i).frameClass ≠ .urgent := nofun
  unfold resentSlots Slot.resent at hslots
  simp [Part.resend, Part.offer, h, hclass, Part.returnToHead, hslots]

/-- R47, R48: the record at the head of the list, taken off it, is queued or goes back. -/
theorem Part.queueRecall_keepsRecall {i : Nat} {rest : List Nat} (hlist : p.recalls.list = i :: rest) :
    p.KeepsRecall (({ p with recalls := { p.recalls with list := rest } } : Part).queueRecall i) := by
  set q : Part := { p with recalls := { p.recalls with list := rest } }
  have hi (h : p.RecallBooks) : p.recallStateOf i = some .listed := h.listed_of_mem (by simp [hlist])
  have hl (h : p.RecallBooks) : Collects p.recallStateOf .listed (i :: rest) := hlist ▸ h.listed
  by_cases hroom : q.line.queue.length < Config.queuePlaces
  · rw [q.queueRecall_of_room i hroom]
    refine Part.KeepsRecall.takeFrame ⟨rfl, rfl, by simp [q], fun h => ?_⟩
    refine h.of_move (hi h) nofun rfl ((hl h).tail nofun) ?_ (h.awaits.ask_new i)
    simpa using h.slotted.append (i := i) (by simp [hi h])
  · rw [q.queueRecall_of_full i hroom]
    refine ⟨rfl, rfl, by simp [Part.returnToHead, q], fun h => ?_⟩
    refine h.of_move (hi h) nofun rfl ?_ (h.slotted.free_slot nofun) (h.awaits.of_sublist List.filter_sublist)
    rw [← hi h, Function.update_eq_self]
    exact hl h

theorem Part.recallTest_keepsRecall : p.KeepsRecall p.recallTest := by
  unfold Part.recallTest
  split
  · rename_i i rest hlist
    split
    · exact p.queueRecall_keepsRecall hlist
    · exact .refl p
  · exact .refl p

variable {p} in
theorem Part.KeepsRecall.recallTest {q : Part} (h : p.KeepsRecall q) : p.KeepsRecall q.recallTest :=
  h.trans q.recallTest_keepsRecall

/-- R50: the re-send of a record's recall is queued, or the record goes back to the head of the list. -/
theorem Part.resend_keepsRecall {i : Nat} {sl : Slot}
    (hf : p.recalls.slots.find? (fun sl => sl.record == i) = some sl) : p.KeepsRecall (p.resend i) := by
  by_cases hroom : p.line.queue.length < Config.queuePlaces
  · rw [p.resend_of_room i hroom]
    refine Part.KeepsRecall.takeFrame ⟨rfl, rfl, rfl, fun h => ⟨h.listed, ?_, h.doubt, ?_⟩⟩
    · exact (resentSlots_map_record i p.line.nextAge p.recalls.slots).symm ▸ h.slotted
    · exact h.awaits.ask (h.awaits.nodup_resentSlots h.slotted.1 i) fun _ => mem_resentSlots
  · rw [p.resend_of_full i hroom]
    refine ⟨rfl, rfl, by simp [Part.returnToHead], fun h => ?_⟩
    have hi := h.outstanding_of_find? hf
    exact h.of_move hi nofun rfl (h.listed.cons (by simp [hi])) (h.slotted.free_slot nofun)
      (h.awaits.of_sublist List.filter_sublist)

variable {p} in
/-- R51: a slot is freed, and its record takes another recall state. -/
theorem Part.RecallBooks.of_freed {i : Nat} {x : RecallState} {q : Part} (h : p.RecallBooks)
    (hi : p.recallStateOf i = some .outstanding) (hx : x ≠ .outstanding)
    (hrec : q.records = p.records.modify i fun r => { r with recallState := x })
    (hlist : Collects (Function.update p.recallStateOf i (some x)) .listed q.recalls.list)
    (hs : q.recalls.slots = (p.freeSlot i).recalls.slots) (hline : q.line = (p.freeSlot i).line) : q.RecallBooks := by
  obtain ⟨queue, hfree, hq⟩ := p.freeSlot_spec i
  rw [hfree] at hs hline
  refine h.of_move hi nofun hrec hlist ?_ ?_
  · rw [hs]
    exact h.slotted.free_slot hx
  · rw [hs, hline]
    exact (h.awaits.of_sublist List.filter_sublist).of_subset hq.subset

theorem Part.waitExpiry_keepsRecall (i : Nat) : p.KeepsRecall (p.waitExpiry i) := by
  obtain ⟨queue, hfree, -⟩ := p.freeSlot_spec i
  have hlist : (p.freeSlot i).recalls.list = p.recalls.list := by rw [hfree]
  unfold Part.waitExpiry
  split
  · rename_i sl hf
    split
    · exact .refl p
    · split
      · refine ⟨by simp [hfree], by simp [hfree], by simp, fun h => ?_⟩
        have hi := h.outstanding_of_find? hf
        refine h.of_freed (x := .listed) hi nofun (by simp) ?_ rfl rfl
        simpa [hlist] using h.listed.append (i := i) (by simp [hi])
      · split
        · exact (p.resend_keepsRecall hf).recallTest
        · refine Part.KeepsRecall.recallTest ⟨by simp [hfree], by simp [hfree], by simp, fun h => ?_⟩
          have hi := h.outstanding_of_find? hf
          refine h.of_freed (x := .unanswered) hi nofun (by simp) ?_ rfl rfl
          simpa [hlist] using h.listed.keep (i := i) (y := .unanswered) (by simp [hi]) nofun
  · exact .refl p

theorem Part.paceExpiry_keepsRecall : p.KeepsRecall p.paceExpiry := by
  unfold Part.paceExpiry
  split
  · refine Part.KeepsRecall.recallTest ?_
    exact .of_view rfl
  · exact .refl p

/-- R49, R53: waits that begin keep the law. -/
theorem Part.KeepsRecall.of_stopped {p q : Part} (c : Slot → Prop) [DecidablePred c] (hl : q.loader = p.loader)
    (hd : q.directory = p.directory) (hrec : q.records = p.records) (hlist : q.recalls.list = p.recalls.list)
    (hs : q.recalls.slots = p.recalls.slots.map fun sl => if c sl then sl.stopped else sl)
    (hq : q.line.queue ⊆ p.line.queue) (ha : q.line.nextAge = p.line.nextAge) : p.KeepsRecall q := by
  have hst : q.recallStateOf = p.recallStateOf := by
    funext i
    rw [Part.recallStateOf, Part.recallStateOf, hrec]
  refine ⟨hl, hd, by rw [hrec], fun h => ⟨?_, ?_, hrec ▸ h.doubt, ?_⟩⟩
  · rw [hst, hlist]
    exact h.listed
  · rw [hst, hs, map_record_of_keeps fun sl => by split_ifs <;> rfl]
    exact h.slotted
  · rw [hs, ha]
    exact (h.awaits.stop c).of_subset hq

theorem Part.recallSent_keepsRecall (age : Nat) : p.KeepsRecall (p.recallSent age) :=
  .of_stopped (fun sl => sl.phase = .awaitingOutcome age) rfl rfl rfl rfl rfl (List.Subset.refl _) rfl

end

/-! ### Recalls and answers (R52 to R57) -/

section
variable (p : Part) {i : Nat} {r : Record}

/-- R53: the recall of a LISTED record is suppressed, or the RECALL of an OUTSTANDING one withdrawn. -/
theorem Part.suppress_keepsRecall (hr : p.records[i]? = some r) : p.KeepsRecall (p.suppress i r) := by
  unfold Part.suppress
  split
  · rename_i hs
    have hi : p.recallStateOf i = some .listed := Part.recallStateOf_eq_some_iff.mpr ⟨r, hr, hs⟩
    split
    · refine ⟨rfl, rfl, by simp, fun h => ?_⟩
      refine h.of_move hi nofun rfl (h.listed.filter nofun) ?_ (h.awaits.append_waiting i 1)
      simpa using h.slotted.append (i := i) (by simp [hi])
    · exact .refl p
  · split
    · split
      · split
        · exact .of_stopped (fun sl => sl.record = i) rfl rfl rfl rfl rfl (List.filter_subset_self _) rfl
        · exact .refl p
      · exact .refl p
    · exact .refl p
  · exact .refl p
  · exact .refl p

theorem Part.queueReply_keepsRecall (i : Nat) : p.KeepsRecall (p.queueReply i) := by
  have hoffer (rs : List ReplyEntry) :
      p.KeepsRecall (({ p with recalls := { p.recalls with replies := rs } } : Part).offer (.reply i)).1 := by
    refine Part.KeepsRecall.offer ?_ (.reply i)
    exact .of_view rfl
  unfold Part.queueReply
  simp only
  split
  · exact hoffer _
  · exact Part.KeepsRecall.unseen (hoffer _) rfl

theorem Part.holdoffExpiry_keepsRecall (i : Nat) : p.KeepsRecall (p.holdoffExpiry i) := by
  unfold Part.holdoffExpiry
  split
  · split
    · split
      · exact p.queueReply_keepsRecall i
      · exact .of_view rfl
    · exact .refl p
  · exact .refl p

theorem Part.answer_keepsRecall (i : Nat) (r : Record) : p.KeepsRecall (p.answer i r) := by
  unfold Part.answer
  split
  · have hjoin (e : ReplyEntry) :
        p.KeepsRecall { p with recalls := { p.recalls with replies := p.recalls.replies ++ [e] } } :=
      .of_view rfl
    simp only
    split
    · exact (hjoin _).trans (Part.holdoffExpiry_keepsRecall _ i)
    · exact hjoin _
  · exact .refl p

theorem Part.recallHeard_keepsRecall (s : Symbol) (d : Day) : p.KeepsRecall (p.recallHeard s d) := by
  unfold Part.recallHeard
  split
  · exact .refl p
  · split
    · exact .refl p
    · rename_i hr
      split
      · exact (p.suppress_keepsRecall hr).trans (Part.answer_keepsRecall _ _ _)
      · exact .refl p

theorem Part.replyOutcome_keepsRecall (age : Nat) : p.KeepsRecall (p.replyOutcome age) :=
  .of_view rfl

end

end Sys2Proof.Machine
end

section
/-! The judgement of contents, the rollovers and the warm restart keep the Recall Unit's books (R6, R12, R19, R21, R22,
R62). -/

namespace Sys2Proof.Machine

/-! ### Changes of a record that leave its recall state and its doubt -/

theorem map_modify_eq {α β : Type} {f : α → α} {g : α → β} (h : ∀ a, g (f a) = g a) (l : List α) (i : Nat) :
    (l.modify i f).map g = l.map g := by
  refine List.ext_getElem? fun j => ?_
  rw [List.getElem?_map, List.getElem?_map, List.getElem?_modify]
  split_ifs
  · simp [Function.comp_def, h]
  · simp

theorem Displayed.sale_doubtful (price volume : Nat) (d : Displayed) : (d.sale price volume).doubtful = d.doubtful := by
  have htrade (d : Displayed) : (d.trade price).doubtful = d.doubtful := by
    unfold Displayed.trade
    split <;> rfl
  unfold Displayed.sale
  simp only
  split
  · rfl
  · exact htrade (d.count volume)

theorem Displayed.instrState_doubtful (code : Nat) (d : Displayed) : (d.instrState code).doubtful = d.doubtful := by
  unfold Displayed.instrState
  split <;> rfl

/-- R13 to R17: a report's own changes leave the doubt and the recall state. -/
theorem Contents.applyTo_recallMark {c : Contents} (hc : ∀ x, c ≠ .reply x) (r : Record) :
    (c.applyTo r).recallMark = r.recallMark := by
  refine Prod.ext rfl ?_
  cases c with
  | sale x => exact Displayed.sale_doubtful x.price x.volume r.shown
  | quote x => rfl
  | state x => exact Displayed.instrState_doubtful x.code r.shown
  | reply x => exact absurd rfl (hc x)

theorem Part.applied_spec (c : Contents) (i : Nat) (r : Record) (p : Part) :
    ∃ b, p.applied c i r = { p with records := p.records.modify i c.applyTo, board := b } := by
  unfold Part.applied
  simp only
  split <;> exact ⟨_, rfl⟩

/-! ### Doubt and satisfaction (R12, R19, R51, R59) -/

section
variable (p : Part) {i : Nat} {r : Record}

theorem Part.dropReply_keepsRecall (i : Nat) : p.KeepsRecall (p.dropReply i) := by
  obtain ⟨rs, q, h, -, hq⟩ := p.dropReply_spec i
  rw [h]
  exact .of_fewer_frames rfl hq.subset

theorem Part.makeDoubtful_slots (i : Nat) : (p.makeDoubtful i).recalls.slots = p.recalls.slots := by
  have hdrop (q : Part) : (q.dropReply i).recalls.slots = q.recalls.slots := by
    obtain ⟨rs, l, hq, -⟩ := q.dropReply_spec i
    rw [hq]
  unfold Part.makeDoubtful
  split
  · rfl
  · simp only
    split
    · split
      · exact hdrop _
      · rfl
    · rfl

/-- R12: doubt lists a record whose recall is not pending, and leaves the books of one whose recall is. -/
theorem Part.makeDoubtful_keepsRecall (i : Nat) : p.KeepsRecall (p.makeDoubtful i) := by
  obtain ⟨u, rs, q, h, hlen, -, hq⟩ := p.makeDoubtful_spec i
  refine ⟨by rw [h], by rw [h], by rw [h]; exact hlen, fun hp => ?_⟩
  cases hr : p.records[i]? with
  | none => simpa [Part.makeDoubtful, hr] using hp
  | some r =>
    obtain ⟨hpending, hnew⟩ := Part.makeDoubtful_list hr
    have hi : p.recallStateOf i = some r.recallState := Part.recallStateOf_eq_some_iff.mpr ⟨r, hr, rfl⟩
    have ha : Awaits (p.makeDoubtful i).recalls.slots (p.makeDoubtful i).line.queue
        (p.makeDoubtful i).line.nextAge := by
      rw [p.makeDoubtful_slots, h]
      exact hp.awaits.of_subset hq.subset
    by_cases hrec : r.RecallPending
    · have hstate : some r.doubted.recallState = p.recallStateOf i := by
        rcases hrec with hs | hs <;> simp [Record.doubted, hi, hs]
      refine hp.of_set hr (Part.makeDoubtful_records hr) (fun _ => rfl) ?_ ?_ ha
      · rw [hstate, Function.update_eq_self, hpending hrec]
        exact hp.listed
      · rw [hstate, Function.update_eq_self, p.makeDoubtful_slots]
        exact hp.slotted
    · obtain ⟨hl, ho⟩ := not_or.mp hrec
      have hstate : r.doubted.recallState = .listed := if_neg ho
      refine hp.of_set hr (Part.makeDoubtful_records hr) (fun _ => rfl) ?_ ?_ ha
      · rw [hstate, hnew hrec]
        exact hp.listed.append (by simpa [hi] using hl)
      · rw [hstate, p.makeDoubtful_slots]
        exact hp.slotted.keep (by simpa [hi] using ho) nofun

/-- R19, R51: what the satisfaction of a recall leaves. -/
theorem Part.satisfyRecall_spec (i : Nat) (before : RecallState) : ∃ queue, p.satisfyRecall i before = { p with
      recalls := { p.recalls with
        list := if before = .listed then p.recalls.list.filter (· != i) else p.recalls.list
        slots := if before = .outstanding then p.recalls.slots.filter (fun sl => sl.record != i) else p.recalls.slots }
      records := p.records.modify i fun r => { r with recallState := .none }
      line := { p.line with queue := queue } } ∧ queue.Sublist p.line.queue := by
  cases before with
  | outstanding => exact (p.setRecallState i .none).freeSlot_spec i
  | none | listed | unanswered => exact ⟨_, rfl, List.Sublist.refl _⟩

/-- R19, R60: an accepted REPLY takes its record off the books. -/
theorem Part.applyContents_reply_keepsRecall (c : ReplyContents) (hr : p.records[i]? = some r) {doubt : Bool}
    (hg : (Contents.reply c).gate r = .applied doubt) : p.KeepsRecall (p.applyContents (.reply c) i r) := by
  have hrecords := (p.applied (.reply c) i r).satisfyRecall_records i r.recallState
  rw [modify_eq_set_of_getElem? _ (Part.applied_getElem? _ hr), Part.applied_records _ hr, List.set_set] at hrecords
  obtain ⟨b, hb⟩ := p.applied_spec (.reply c) i r
  obtain ⟨queue, hq, hsub⟩ := (p.applied (.reply c) i r).satisfyRecall_spec i r.recallState
  rw [Part.applyContents_reply hg]
  refine ⟨by rw [hq, hb], by rw [hq, hb], by rw [hrecords]; simp, fun h => ?_⟩
  have hi : p.recallStateOf i = some r.recallState := Part.recallStateOf_eq_some_iff.mpr ⟨r, hr, rfl⟩
  refine h.of_set hr hrecords (fun hn => absurd rfl hn) ?_ ?_ ?_ <;> rw [hq, hb]
  · show Collects _ _ (if r.recallState = .listed then p.recalls.list.filter (· != i) else p.recalls.list)
    split_ifs with hs
    · exact h.listed.filter nofun
    · exact h.listed.keep (by simpa [hi] using hs) nofun
  · show Collects _ _ ((if r.recallState = .outstanding then p.recalls.slots.filter (fun sl => sl.record != i)
      else p.recalls.slots).map Slot.record)
    split_ifs with hs
    · exact h.slotted.free_slot nofun
    · exact h.slotted.keep (by simpa [hi] using hs) nofun
  · have hsub : queue ⊆ p.line.queue := by
      rw [hb] at hsub
      exact hsub.subset
    refine Awaits.of_subset (Awaits.of_sublist h.awaits ?_) hsub
    show List.Sublist (if r.recallState = .outstanding then p.recalls.slots.filter (fun sl => sl.record != i)
      else p.recalls.slots) p.recalls.slots
    split_ifs
    · exact List.filter_sublist
    · exact List.Sublist.refl _

/-- R12: a report applied leaves the books, and doubt lists the record. -/
theorem Part.applyContents_report_keepsRecall {c : Contents} (hc : ∀ x, c ≠ .reply x) {doubt : Bool}
    (hg : c.gate r = .applied doubt) : p.KeepsRecall (p.applyContents c i r) := by
  obtain ⟨b, hb⟩ := p.applied_spec c i r
  have happlied : p.KeepsRecall (p.applied c i r) := by
    refine .of_view ?_
    rw [hb]
    simp [Part.recallView, map_modify_eq (Contents.applyTo_recallMark hc)]
  rw [Part.applyContents_report hc hg]
  split
  · exact happlied.trans (Part.makeDoubtful_keepsRecall _ i)
  · exact happlied

theorem Part.applyContents_keepsRecall (c : Contents) (hr : p.records[i]? = some r) :
    p.KeepsRecall (p.applyContents c i r) := by
  cases hg : c.gate r with
  | ignored =>
    rw [Part.applyContents_of_ignored hg]
    exact .refl p
  | applied doubt =>
    cases c with
    | reply x => exact p.applyContents_reply_keepsRecall x hr hg
    | sale x | quote x | state x => exact p.applyContents_report_keepsRecall nofun hg

/-! ### Judgement and rollovers (R6, R21, R22) -/

@[simp] theorem Part.markDependents_recallView (old : List Record) :
    (p.markDependents old).recallView = p.recallView := rfl

@[simp] theorem Part.adoptDay_recallView (d : Day) : (p.adoptDay d).recallView = p.recallView := by
  unfold Part.adoptDay
  split <;> rfl

theorem Part.judge_keepsRecall (c : Contents) : p.KeepsRecall (p.judge c) := by
  have hday : p.KeepsRecall (p.adoptDay c.day) := .of_view (p.adoptDay_recallView c.day)
  refine Part.KeepsRecall.unseen ?_ (Part.markDependents_recallView _ p.records)
  unfold Part.judgeCore
  split
  · simp only
    split
    · exact hday
    · split
      · exact hday
      · rename_i hr
        split
        · exact hday.trans (Part.applyContents_keepsRecall _ c hr)
        · exact hday
  · split
    · exact p.makeDoubtful_keepsRecall _
    · exact .refl p

theorem Part.rollover_recallView {f : Record → Record} (hf : ∀ r, (f r).recallMark = r.recallMark)
    (session : SessionDay) : (p.rollover f session).recallView = p.recallView := by
  simp [Part.rollover, Part.recallView, Part.markDependents, Function.comp_def, hf]

@[simp] theorem Part.openDay_recallView (d : Day) : (p.openDay d).recallView = p.recallView :=
  p.rollover_recallView (f := Record.openRollover d) (fun _ => rfl) _

@[simp] theorem Part.closeDay_recallView (d : Day) : (p.closeDay d).recallView = p.recallView :=
  p.rollover_recallView (f := Record.closeRollover) (fun _ => rfl) _

theorem Part.replyHeard_keepsRecall (c : ReplyContents) : p.KeepsRecall (p.replyHeard c) := by
  refine Part.KeepsRecall.trans ?_ (Part.judge_keepsRecall _ (.reply c))
  split
  · split
    · split
      · exact p.dropReply_keepsRecall _
      · exact .refl p
    · exact .refl p
  · exact .refl p

/-! ### Warm restart (R62) -/

/-- R62: a record back on the list. -/
def Record.relisted (r : Record) : Record :=
  { r with recallState := .listed }

/-- R62: recall states written one after another change the records named. -/
theorem Part.foldl_setRecallState_spec (l : List Nat) : ∃ rs,
    l.foldl (fun q i => q.setRecallState i .listed) p = { p with records := rs } ∧ rs.length = p.records.length ∧
      ∀ j, rs[j]? = if j ∈ l then (p.records[j]?).map Record.relisted else p.records[j]? := by
  induction l generalizing p with
  | nil => exact ⟨p.records, rfl, rfl, fun j => by simp⟩
  | cons i l ih =>
    obtain ⟨rs, hfold, hlen, hget⟩ := ih (p.setRecallState i .listed)
    refine ⟨rs, hfold, by simpa using hlen, fun j => ?_⟩
    rw [hget, Part.setRecallState_records, List.getElem?_modify]
    by_cases hj : i = j
    · subst hj
      cases p.records[i]? with
      | none => simp
      | some r => simp [Record.relisted]
    · simp [hj, Ne.symm hj]

/-- R62: the records of the slots go back to the list, and no slot is left. -/
theorem Part.recallRestart_keepsRecall : p.KeepsRecall p.recallRestart := by
  obtain ⟨rs, hfold, hlen, hget⟩ := p.foldl_setRecallState_spec (p.recalls.slots.map Slot.record)
  have hrestart : p.recallRestart = { p with
      records := rs
      recalls := { list := p.recalls.slots.map Slot.record ++ p.recalls.list, slots := [], replies := [],
                   paceRunning := false } } := by
    simp only [Part.recallRestart, hfold]
  rw [hrestart]
  refine ⟨rfl, rfl, hlen, fun h => ?_⟩
  have hout (j : Nat) : j ∈ p.recalls.slots.map Slot.record ↔ p.recallStateOf j = some .outstanding := h.slotted.2 j
  have hst (j : Nat) : (rs[j]?).map (·.recallState) =
      if p.recallStateOf j = some .outstanding then some .listed else p.recallStateOf j := by
    simp only [hget, hout]
    split_ifs with hj
    · obtain ⟨r, hr, -⟩ := Part.recallStateOf_eq_some_iff.mp hj
      simp [hr, Record.relisted]
    · rfl
  refine ⟨⟨?_, fun j => ?_⟩, ⟨List.nodup_nil, fun j => ?_⟩, ?_, ?_⟩
  · refine List.nodup_append'.mpr ⟨h.slotted.1, h.listed.1, fun j hs hl => ?_⟩
    exact absurd ((h.listed_of_mem hl).symm.trans ((hout j).mp hs)) nofun
  · rw [Part.recallStateOf, hst, List.mem_append, hout, h.listed.2]
    split_ifs with hj <;> simp [hj]
  · rw [Part.recallStateOf, hst]
    split_ifs with hj <;> simp [hj]
  · intro r hr hs
    obtain ⟨j, hj⟩ := List.mem_iff_getElem?.mp hr
    rw [hget] at hj
    split_ifs at hj with hm
    · obtain ⟨r₀, h₀, rfl⟩ := Option.map_eq_some_iff.mp hj
      obtain ⟨r₁, h₁, ho⟩ := Part.recallStateOf_eq_some_iff.mp ((hout j).mp hm)
      obtain rfl : r₀ = r₁ := Option.some.inj (h₀.symm.trans h₁)
      exact h.doubt r₀ (List.mem_of_getElem? h₀) (by rw [ho]; nofun)
    · exact h.doubt r (List.mem_of_getElem? hj) hs
  · exact h.awaits.of_sublist (List.nil_sublist _)

end

end Sys2Proof.Machine
end

section
/-! The Recall Unit's law (R4, R12, R45, R48, R49): what the other blocks do leaves it, and every command keeps it. -/

namespace Sys2Proof.Machine

/-! ### Operations that the law does not see -/

section
variable (p : Part)

@[simp] theorem Part.endFormation_recallView : p.endFormation.recallView = p.recallView := by
  obtain ⟨f, rib, h, -⟩ := p.endFormation_spec
  rw [h]; rfl

@[simp] theorem Part.boardRequest_recallView : p.boardRequest.recallView = p.recallView := by
  obtain ⟨f, h⟩ := p.boardRequest_spec
  rw [h]; rfl

@[simp] theorem Part.boardKick_recallView : p.boardKick.recallView = p.recallView := by
  obtain ⟨f, b, h, -⟩ := p.boardKick_spec
  rw [h]; rfl

@[simp] theorem Part.termKick_recallView (k : TerminalId) : (p.termKick k).recallView = p.recallView := by
  obtain ⟨f, x, h, -⟩ := p.termKick_spec k
  rw [h]; rfl

@[simp] theorem Part.termsKick_recallView : p.termsKick.recallView = p.recallView := by
  obtain ⟨f, ts, h, -⟩ := p.termsKick_spec
  rw [h]; rfl

@[simp] theorem Part.ribbonRequest_recallView : p.ribbonRequest.recallView = p.recallView := by
  obtain ⟨f, rib, h, -⟩ := p.ribbonRequest_spec
  rw [h]; rfl

@[simp] theorem Part.onTape_recallView (g : TapeEnv → Tape → Tape) : (p.onTape g).recallView = p.recallView := by
  obtain ⟨f, rib, h, -⟩ := p.onTape_spec g
  rw [h]; rfl

@[simp] theorem Part.tapeCandidate_recallView (c : SaleContents) : (p.tapeCandidate c).recallView = p.recallView := by
  unfold Part.tapeCandidate
  split
  · exact p.onTape_recallView _
  · rfl

@[simp] theorem Part.noticeArrives_recallView (u : Nat) (text : List Byte) :
    (p.noticeArrives u text).recallView = p.recallView := by
  unfold Part.noticeArrives
  split
  · exact p.onTape_recallView _
  · rfl

@[simp] theorem Part.setClock_recallView (t : TimeOfDay) (day : Option Day) :
    (p.setClock t day).recallView = p.recallView := by
  unfold Part.setClock
  simp only
  split <;> rfl

@[simp] theorem Part.clockHeard_recallView (w h m s : Nat) : (p.clockHeard w h m s).recallView = p.recallView := by
  unfold Part.clockHeard
  split <;> rfl

@[simp] theorem Part.blankAtClose_recallView : p.blankAtClose.recallView = p.recallView := by
  unfold Part.blankAtClose
  split <;> rfl

@[simp] theorem Part.checkOrigin_recallView (origin : Nat) : (p.checkOrigin origin).recallView = p.recallView := by
  unfold Part.checkOrigin
  split <;> rfl

theorem Part.sessionHeard_recallView (f : Day) (phase : Nat) : (p.sessionHeard f phase).recallView = p.recallView := by
  unfold Part.sessionHeard
  split
  · rfl
  · rfl
  · split <;> simp
  · split <;> simp
  · rfl

theorem Part.boardFormed_recallView : p.boardFormed.recallView = p.recallView := by
  unfold Part.boardFormed
  split
  · split
    · exact (Part.endFormation_recallView _).trans (Part.boardRequest_recallView _)
    · rfl
  · rfl

theorem Part.terminalFormed_recallView : p.terminalFormed.recallView = p.recallView := by
  unfold Part.terminalFormed
  split
  · split
    · exact Part.endFormation_recallView _
    · rfl
  · rfl

/-- R42: the last printed whole is no part of the law. -/
theorem Part.writeLastWhole_recallView (w : Option (Nat × Nat)) : (p.writeLastWhole w).recallView = p.recallView := by
  unfold Part.writeLastWhole
  split
  · rename_i n
    have hm : ∀ r : Record, ({ r with lastWhole := some n } : Record).recallMark = r.recallMark := fun _ => rfl
    simp [Part.recallView, map_modify_eq hm]
  · rfl

theorem Part.ribbonFormed_recallView : p.ribbonFormed.recallView = p.recallView := by
  unfold Part.ribbonFormed
  split
  · exact ((Part.endFormation_recallView _).trans (Part.ribbonRequest_recallView _)).trans
      (Part.writeLastWhole_recallView _ _)
  · rfl

theorem Part.panelWriteComplete_recallView : p.panelWriteComplete.recallView = p.recallView := by
  unfold Part.panelWriteComplete
  split
  · rfl
  · rfl
  · exact Part.boardRequest_recallView _

theorem Part.flashExpiry_recallView (k : Nat) : (p.flashExpiry k).recallView = p.recallView := by
  unfold Part.flashExpiry
  split
  · split
    · exact Part.boardKick_recallView _
    · rfl
  · rfl

theorem Part.advanceExpiry_recallView (ready : Bool) : (p.advanceExpiry ready).recallView = p.recallView := by
  unfold Part.advanceExpiry
  split
  · rfl
  · split
    · exact Part.onTape_recallView _ _
    · rfl
    · rfl
    · rfl

theorem Part.runComplete_recallView (k : TerminalId) : (p.runComplete k).recallView = p.recallView := by
  unfold Part.runComplete
  split
  · exact Part.termKick_recallView _ k
  · rfl

theorem Part.highlightExpiry_recallView (k : TerminalId) (row : Nat) :
    (p.highlightExpiry k row).recallView = p.recallView := by
  unfold Part.highlightExpiry
  split
  · rfl
  · split
    · split
      · exact Part.termKick_recallView _ k
      · rfl
    · rfl

theorem Part.keyReceived_recallView (k : TerminalId) (b : Byte) (fault : Bool) :
    (p.keyReceived k b fault).recallView = p.recallView := by
  unfold Part.keyReceived
  split
  · rfl
  · exact Part.termKick_recallView _ k

theorem Line.becomeBusy_queue (judged : Bool) (l : Line) :
    (l.becomeBusy judged).queue = l.queue ∧ (l.becomeBusy judged).nextAge = l.nextAge := by
  unfold Line.becomeBusy
  split <;> exact ⟨rfl, rfl⟩

theorem Line.gapExpiry_queue (l : Line) : l.gapExpiry.queue = l.queue ∧ l.gapExpiry.nextAge = l.nextAge := by
  unfold Line.gapExpiry
  split
  · split <;> exact ⟨rfl, rfl⟩
  · exact ⟨rfl, rfl⟩

theorem Line.backoffExpiry_queue (l : Line) :
    l.backoffExpiry.queue = l.queue ∧ l.backoffExpiry.nextAge = l.nextAge := by
  unfold Line.backoffExpiry
  split
  · split <;> exact ⟨rfl, rfl⟩
  · exact ⟨rfl, rfl⟩

/-- The line's own timers and senses leave the queue. -/
theorem Part.onLine_recallView {f : Line → Line} (hf : ∀ l, (f l).queue = l.queue ∧ (f l).nextAge = l.nextAge) :
    (p.onLine f).recallView = p.recallView := by
  obtain ⟨hq, ha⟩ := hf p.line
  simp [Part.recallView, hq, ha]

/-! ### Session Clock and Timetable (R79 to R90) -/

theorem Part.settle_keepsRecall : p.KeepsRecall p.settle := by
  refine Part.KeepsRecall.recallTest (.of_view ?_)
  simp

variable {p} in
theorem Part.KeepsRecall.settle {q : Part} (h : p.KeepsRecall q) : p.KeepsRecall q.settle :=
  h.trans q.settle_keepsRecall

theorem Part.offerOwn_keepsRecall (b : TxBody) : p.KeepsRecall (p.offerOwn b) := by
  unfold Part.offerOwn
  split
  · exact .refl p
  · exact p.offer_keepsRecall b

theorem Part.openAction_keepsRecall : p.KeepsRecall p.openAction := by
  unfold Part.openAction
  split
  · exact (Part.KeepsRecall.of_view (p.openDay_recallView _)).trans (Part.offerOwn_keepsRecall _ _)
  · exact .refl p

theorem Part.closeAction_keepsRecall : p.KeepsRecall p.closeAction := by
  unfold Part.closeAction
  split
  · refine Part.KeepsRecall.unseen ?_ (Part.blankAtClose_recallView _)
    exact (Part.KeepsRecall.of_view (p.closeDay_recallView _)).trans (Part.offerOwn_keepsRecall _ _)
  · exact .refl p

theorem Part.performAction_keepsRecall (hour minute : Nat) (a : TimetableAction) :
    p.KeepsRecall (p.performAction hour minute a) := by
  refine Part.KeepsRecall.settle ?_
  cases a with
  | openSession => exact p.openAction_keepsRecall
  | closeSession => exact p.closeAction_keepsRecall
  | tapeTime => exact .of_view (p.onTape_recallView fun env => Tape.join env .routine (.tapeTime hour minute))
  | repaint => exact .of_view rfl
  | sendClock =>
    simp only
    split
    · exact p.offerOwn_keepsRecall .clock
    · exact .refl p

theorem Part.minuteBoundary_keepsRecall (t : TimeOfDay) : p.KeepsRecall (p.minuteBoundary t) := by
  have hfold (hour minute : Nat) (es : List TimetableEntry) (q : Part) :
      q.KeepsRecall (es.foldl (fun q e => q.performAction hour minute e.action) q) := by
    induction es generalizing q with
    | nil => exact .refl q
    | cons e es ih =>
      rw [List.foldl_cons]
      exact (q.performAction_keepsRecall hour minute e.action).trans (ih _)
  exact hfold _ _ _ p

theorem Part.secondExpiry_keepsRecall : p.KeepsRecall p.secondExpiry := by
  unfold Part.secondExpiry
  split
  · exact .refl p
  · rename_i t _
    have ht : p.KeepsRecall (p.setTime t.advance) := .of_view rfl
    simp only
    split
    · exact ht.trans (Part.minuteBoundary_keepsRecall _ _)
    · exact ht

/-! ### Frames heard and frames sent (R64 to R68, R74) -/

theorem Part.saleArrives_keepsRecall (c : SaleContents) : p.KeepsRecall (p.saleArrives c) :=
  (p.judge_keepsRecall (.sale c)).unseen (by simp [Part.saleArrives])

theorem Part.handFrame_keepsRecall (b : FrameBody) : p.KeepsRecall (p.handFrame b) := by
  cases b with
  | sale c => exact p.saleArrives_keepsRecall c
  | quote c => exact p.judge_keepsRecall (.quote c)
  | state c => exact p.judge_keepsRecall (.state c)
  | recallFor s d => exact p.recallHeard_keepsRecall s d
  | reply c => exact p.replyHeard_keepsRecall c
  | notice u t => exact .of_view (p.noticeArrives_recallView u t)
  | session d ph => exact .of_view (p.sessionHeard_recallView d ph)
  | clock w hr m s => exact .of_view (p.clockHeard_recallView w hr m s)
  | hold g a => exact .of_view rfl

theorem Part.judgeFrame_keepsRecall (bytes : List Byte) : p.KeepsRecall (p.judgeFrame bytes) := by
  unfold Part.judgeFrame
  split
  · exact .refl p
  · exact ((Part.KeepsRecall.of_view (p.checkOrigin_recallView _)).trans (Part.handFrame_keepsRecall _ _)).settle

theorem Part.endOfTransmission_keepsRecall (bytes : List Byte) : p.KeepsRecall (p.endOfTransmission bytes) := by
  have hquiet : p.KeepsRecall (p.onLine Line.becomeQuiet) := .of_view rfl
  unfold Part.endOfTransmission
  split
  · exact .refl p
  · simp only
    split
    · exact hquiet.trans (Part.judgeFrame_keepsRecall _ bytes)
    · exact hquiet

theorem Part.handOn_keepsRecall (b : TxBody) : p.KeepsRecall (p.handOn b) := by
  cases b with
  | sale c => exact p.saleArrives_keepsRecall c
  | quote c => exact p.judge_keepsRecall (.quote c)
  | state c => exact p.judge_keepsRecall (.state c)
  | notice u t => exact .of_view (p.noticeArrives_recallView u t)
  | hold g a => exact .of_view rfl
  | recallFor i | reply i | session d ph | clock => exact .refl p

theorem Part.entryOutcome_keepsRecall (f : QueuedFrame) (sent : Bool) : p.KeepsRecall (p.entryOutcome f sent) := by
  have hand {q : Part} (hq : p.KeepsRecall q) : p.KeepsRecall (if sent then (q.handOn f.body).settle else q) := by
    split
    · exact (hq.trans (q.handOn_keepsRecall f.body)).settle
    · exact hq
  unfold Part.entryOutcome
  split
  · refine hand ?_
    exact .of_view rfl
  · split
    · refine hand ?_
      exact .of_view rfl
    · exact .refl p

theorem Part.ownerOutcome_keepsRecall (f : QueuedFrame) (sent : Bool) : p.KeepsRecall (p.ownerOutcome f sent) := by
  unfold Part.ownerOutcome
  cases f.body with
  | recallFor i => exact p.recallSent_keepsRecall f.age
  | reply i => exact p.replyOutcome_keepsRecall f.age
  | session d ph | clock => exact .refl p
  | sale c | quote c | state c | notice u text | hold g a => exact p.entryOutcome_keepsRecall f sent

theorem Part.endSend_keepsRecall (sent : Bool) : p.KeepsRecall (p.endSend sent) := by
  unfold Part.endSend
  split
  · exact .refl p
  · rename_i x _
    exact Part.KeepsRecall.takeFrame ((p.ownerOutcome_keepsRecall x.frame sent).unseen rfl)

theorem Part.sendComplete_keepsRecall : p.KeepsRecall p.sendComplete := by
  unfold Part.sendComplete
  split
  · exact p.endSend_keepsRecall true
  · exact .refl p

theorem Part.clash_keepsRecall : p.KeepsRecall p.clash := by
  unfold Part.clash
  split
  · exact .refl p
  · split
    · exact .refl p
    · split
      · exact .of_view rfl
      · exact p.endSend_keepsRecall false

/-! ### Console (R162 to R173) -/

theorem Part.offerEntry_keepsRecall (b : TxBody) : p.KeepsRecall (p.offerEntry b) := by
  unfold Part.offerEntry
  simp only
  split
  · exact Part.KeepsRecall.recallTest ((p.offer_keepsRecall b).unseen rfl)
  · exact (p.offer_keepsRecall b).unseen rfl

/-- What a completed body that asks for a frame comes to: a result at once, or the frame offered (R165 to R167). -/
inductive Part.Answered (p : Part) : Part → Prop
  | finished (r : ResultCode) : p.Answered (p.finish r)
  | offered (b : TxBody) : p.Answered (p.offerEntry b)

theorem Part.judgeSale_answered (b : List Byte) : p.Answered (p.judgeSale b) := by
  unfold Part.judgeSale
  simp only
  split
  · exact .finished _
  · split
    · exact .finished _
    · split
      · exact .finished _
      · split
        · exact .finished _
        · exact .offered _

theorem Part.judgeQuote_answered (b : List Byte) : p.Answered (p.judgeQuote b) := by
  unfold Part.judgeQuote
  simp only
  split
  · exact .finished _
  · split
    · exact .finished _
    · split
      · exact .finished _
      · split
        · exact .finished _
        · split
          · exact .finished _
          · exact .offered _

theorem Part.judgeState_answered (b : List Byte) : p.Answered (p.judgeState b) := by
  unfold Part.judgeState
  simp only
  split
  · exact .finished _
  · split
    · exact .finished _
    · split
      · exact .offered _
      · exact .finished _

theorem Part.judgeNotice_answered (b : List Byte) : p.Answered (p.judgeNotice b) := by
  unfold Part.judgeNotice
  simp only
  split
  · exact .finished _
  · split
    · exact .finished _
    · exact .offered _

theorem Part.judgeHold_answered (b : List Byte) : p.Answered (p.judgeHold b) := by
  unfold Part.judgeHold
  simp only
  split
  · exact .finished _
  · split
    · exact .finished _
    · split
      · exact .finished _
      · exact .offered _

theorem Part.judgeRelease_answered (b : List Byte) : p.Answered (p.judgeRelease b) := by
  unfold Part.judgeRelease
  simp only
  split
  · exact .finished _
  · split
    · exact .finished _
    · exact .offered _

theorem Part.Answered.keepsRecall {p q : Part} (h : p.Answered q) : p.KeepsRecall q := by
  cases h with
  | finished r => exact .of_view rfl
  | offered b => exact p.offerEntry_keepsRecall b

theorem Part.judgeSetClock_keepsRecall (b : List Byte) : p.KeepsRecall (p.judgeSetClock b) := by
  unfold Part.judgeSetClock
  simp only
  split
  · exact Part.KeepsRecall.recallTest (.of_view (Part.setClock_recallView p _ _))
  · exact .of_view rfl

theorem Part.judgeBody_keepsRecall (c : ConsoleCommand) (b : List Byte) : p.KeepsRecall (p.judgeBody c b) := by
  cases c with
  | enterSale => exact (p.judgeSale_answered b).keepsRecall
  | enterQuote => exact (p.judgeQuote_answered b).keepsRecall
  | enterState => exact (p.judgeState_answered b).keepsRecall
  | enterNotice => exact (p.judgeNotice_answered b).keepsRecall
  | hold => exact (p.judgeHold_answered b).keepsRecall
  | release => exact (p.judgeRelease_answered b).keepsRecall
  | readRecord =>
    show p.KeepsRecall (p.judgeReadRecord b)
    unfold Part.judgeReadRecord
    split <;> exact .of_view rfl
  | setClock => exact p.judgeSetClock_keepsRecall b
  | clearStatus | abortClear | repaint | blank | warmRestart | unknown => exact .of_view rfl

theorem Part.dataWrite_keepsRecall (v : Byte) : p.KeepsRecall (p.dataWrite v) := by
  unfold Part.dataWrite
  split
  · split <;> exact .of_view rfl
  · split
    · exact .of_view rfl
    · exact p.judgeBody_keepsRecall _ _
  · exact .refl p

/-- R62, R78, R173: the Recall Unit restarts, the queue is emptied, and the other blocks are no part of the law. -/
theorem Part.warmRestart_keepsRecall : p.KeepsRecall p.warmRestart := by
  have hformatter : p.KeepsRecall p.formatterRestart := .of_view rfl
  have hrecall : p.KeepsRecall p.formatterRestart.recallRestart :=
    hformatter.trans p.formatterRestart.recallRestart_keepsRecall
  have hqueue : p.KeepsRecall p.formatterRestart.recallRestart.queueRestart :=
    hrecall.trans (.of_fewer_frames rfl (List.nil_subset _))
  unfold Part.warmRestart
  have hshown (q : Part) (ts : Vector Terminal 8) :
      ({ q with terminals := ts } : Part).consoleRestart.recallView = q.recallView := rfl
  refine Part.KeepsRecall.settle (hqueue.unseen ?_)
  rw [hshown, Part.onTape_recallView, Part.boardKick_recallView]
  rfl

theorem Part.commandReady_keepsRecall (c : ConsoleCommand) : p.KeepsRecall (p.commandReady c) := by
  cases c with
  | warmRestart => exact p.warmRestart_keepsRecall
  | repaint | blank => exact .of_view (Part.boardKick_recallView _)
  | enterSale | enterQuote | enterState | enterNotice | hold | release | readRecord | setClock | clearStatus
  | abortClear | unknown => exact .of_view rfl

theorem Part.commandWrite_keepsRecall (c : ConsoleCommand) : p.KeepsRecall (p.commandWrite c) := by
  unfold Part.commandWrite
  split
  · exact p.commandReady_keepsRecall c
  · exact .of_view rfl
  · split
    · exact .of_view rfl
    · exact p.warmRestart_keepsRecall
    · exact .of_view rfl
  · split
    · exact .of_view rfl
    · exact .refl p
  · exact .refl p
  · exact .refl p

end

/-! ### Loading (R4, R46, R175 to R178) -/

section
variable {p q : Part}

/-- R4: the directory names each record once. -/
def Part.DirectoryLaw (p : Part) : Prop :=
  (p.directory.map Prod.snd).Perm (List.range p.records.length)

/-- While the image is read or in CONFIG FAULT the law is the directory's. -/
theorem Part.DirectoryLaw.recallLaw (h : p.DirectoryLaw) (hl : p.loader.phase ≠ .locked) : p.RecallLaw := by
  refine ⟨h, fun hr => absurd ?_ hl⟩
  simpa [Part.running] using hr

theorem Part.directoryLaw_of_empty (hd : p.directory = []) (hr : p.records = []) : p.DirectoryLaw := by
  simp [Part.DirectoryLaw, hd, hr]

theorem insertSymbol_perm (s : Symbol) (i : Nat) (d : List (Symbol × Nat)) :
    (insertSymbol s i d).Perm ((s, i) :: d) := by
  induction d with
  | nil => exact .refl _
  | cons e d ih =>
    unfold insertSymbol
    split
    · exact .refl _
    · exact (ih.cons e).trans (.swap _ _ _)

/-- An item taken keeps the directory law, and the load goes on. -/
structure Part.TakesItem (p q : Part) : Prop where
  directory : p.DirectoryLaw → q.DirectoryLaw
  phase : q.loader.phase = p.loader.phase ∨ q.loader.phase = .items

theorem Part.TakesItem.of_same (hd : q.directory = p.directory) (hr : q.records = p.records)
    (hp : q.loader.phase = p.loader.phase) : p.TakesItem q :=
  ⟨fun h => by rw [Part.DirectoryLaw, hd, hr]; exact h, .inl hp⟩

theorem Part.takeInstrument_takesItem (x : InstrumentItem) (p : Part) : p.TakesItem (p.takeInstrument x) := by
  refine ⟨fun h => ?_, .inl (by rw [Part.takeInstrument_loader])⟩
  by_cases ha : p.Accepts x
  · rw [Part.takeInstrument_of_accepts ha, Part.warnIf_eq]
    refine ((insertSymbol_perm x.symbol p.records.length p.directory).map Prod.snd).trans ?_
    rw [List.length_append, List.length_singleton, List.range_succ]
    exact (h.cons _).trans (List.perm_append_singleton _ _).symm
  · rw [Part.takeInstrument_of_not_accepts ha, Part.warnIf_eq]
    exact h

theorem Part.TakesItem.warnIf (h : p.TakesItem q) (w : Bool) : p.TakesItem (q.warnIf w) := by
  rw [Part.warnIf_eq]
  exact ⟨h.directory, h.phase⟩

theorem Part.takeZone_takesItem (x : ZoneItem) (p : Part) : p.TakesItem (p.takeZone x) := by
  unfold Part.takeZone
  split
  · split <;> (refine Part.TakesItem.warnIf ?_ _; exact .of_same rfl rfl rfl)
  · exact Part.TakesItem.warnIf (.of_same rfl rfl rfl) _

theorem Part.takePosition_takesItem (x : PositionItem) (p : Part) : p.TakesItem (p.takePosition x) := by
  unfold Part.takePosition
  split
  · exact .of_same rfl rfl rfl
  · exact Part.TakesItem.warnIf (.of_same rfl rfl rfl) _

theorem Part.takePage_takesItem (n : Nat) (ss : List Symbol) (p : Part) : p.TakesItem (p.takePage n ss) := by
  unfold Part.takePage
  split <;> (refine Part.TakesItem.warnIf ?_ _; exact .of_same rfl rfl rfl)

theorem Part.takeTimetable_takesItem (x : TimetableItem) (p : Part) : p.TakesItem (p.takeTimetable x) := by
  unfold Part.takeTimetable
  split
  · exact .of_same rfl rfl rfl
  · exact Part.TakesItem.warnIf (.of_same rfl rfl rfl) _

theorem Part.takeLayout_takesItem (x : Option Layout) (p : Part) : p.TakesItem (p.takeLayout x) := by
  refine Part.TakesItem.warnIf ?_ _
  exact .of_same rfl rfl rfl

theorem Part.takeHeader_takesItem (x : Settings) (w : Bool) (c : ItemCounts) (p : Part) :
    p.TakesItem (p.takeHeader x w c) := by
  refine Part.TakesItem.warnIf ?_ _
  exact ⟨id, .inr rfl⟩

theorem readItem_takesItem {sec : ImageSection} {bs rest : List Byte} {take : Part → Part}
    (h : readItem sec bs = .got take rest) (p : Part) : p.TakesItem (take p) := by
  cases sec with
  | header =>
    simp only [readItem] at h
    split at h <;> cases h
    exact p.takeHeader_takesItem _ _ _
  | instruments =>
    simp only [readItem] at h
    split at h <;> cases h
    exact p.takeInstrument_takesItem _
  | layouts =>
    simp only [readItem] at h
    split at h <;> cases h
    exact p.takeLayout_takesItem _
  | zones =>
    simp only [readItem] at h
    split at h <;> cases h
    exact p.takeZone_takesItem _
  | positions =>
    simp only [readItem] at h
    split at h <;> cases h
    exact p.takePosition_takesItem _
  | pages =>
    simp only [readItem] at h
    split at h <;> cases h
    exact p.takePage_takesItem _ _
  | timetable =>
    simp only [readItem] at h
    split at h <;> cases h
    exact p.takeTimetable_takesItem _

theorem Loader.phase_of_current {l : Loader} {sec : ImageSection} (h : l.current = some sec) :
    l.phase = .header ∨ l.phase = .items := by
  unfold Loader.current at h
  split at h
  · exact .inl ‹_›
  · exact .inr ‹_›
  · cases h
  · cases h

/-- R175, R176: the read of an item keeps the law, and locks nothing. -/
theorem Part.itemRead_recallLaw (h : p.RecallLaw) (bytes : List Byte) : (p.itemRead bytes).RecallLaw := by
  unfold Part.itemRead
  split
  · exact h
  · rename_i sec hsec
    have hphase := Loader.phase_of_current hsec
    simp only
    split
    · refine Part.DirectoryLaw.recallLaw h.1 ?_
      rcases hphase with hp | hp <;> simp [hp]
    · exact (Part.directoryLaw_of_empty rfl rfl).recallLaw nofun
    · rename_i take rest hitem
      obtain ⟨hdir, hp⟩ := readItem_takesItem hitem (p.onLoader (Loader.consume sec _))
      refine Part.DirectoryLaw.recallLaw (hdir h.1) fun hlocked => ?_
      have hsame : p.loader.phase = .locked ∨ LoadPhase.locked = .items :=
        hp.imp (fun e => e.symm.trans hlocked) fun e => hlocked.symm.trans e
      rcases hphase with hq | hq <;> simp [hq] at hsame

/-- R46, R178: at the lock the start-up sweep lists every record. -/
theorem Part.startingValues_recallLaw (h : p.DirectoryLaw) : p.startingValues.RecallLaw := by
  have hlen : p.startingValues.records.length = p.records.length := by
    simp [Part.startingValues, Part.sweep]
  have hst (i : Nat) : p.startingValues.recallStateOf i = if i < p.records.length then some .listed else none := by
    by_cases hi : i < p.records.length <;> simp [Part.recallStateOf, Part.startingValues, Part.sweep, hi]
  refine ⟨by rw [hlen]; exact h, fun _ => (Part.recallBooks_iff _).mp ?_⟩
  refine ⟨⟨?_, fun i => ?_⟩, ⟨List.nodup_nil, fun i => ?_⟩, ?_, ?_⟩
  · exact h.nodup_iff.mpr List.nodup_range
  · rw [hst]
    refine h.mem_iff.trans ?_
    simp
  · rw [hst]
    split_ifs <;> simp [Part.startingValues, Part.sweep, Recall.reset]
  · intro r hr _
    obtain ⟨r₁, h₁, rfl⟩ := List.mem_map.mp hr
    obtain ⟨r₀, -, rfl⟩ := List.mem_map.mp h₁
    rfl
  · exact ⟨List.nodup_nil, nofun, nofun⟩

theorem Part.loadCompletion_recallLaw (h : p.RecallLaw) (balance : Word16) : (p.loadCompletion balance).RecallLaw := by
  unfold Part.loadCompletion
  split
  · split
    · exact p.startingValues.settle_keepsRecall.recallLaw (Part.startingValues_recallLaw h.1)
    · exact (Part.directoryLaw_of_empty rfl rfl).recallLaw nofun
  · exact h

/-! ### Every command -/

theorem Part.KeepsRecall.whenRunning {f : Part → Part} (h : p.KeepsRecall (f p)) : p.KeepsRecall (p.whenRunning f) := by
  unfold Part.whenRunning
  split
  · exact h
  · exact .refl p

end

/-- Every command but those that load leaves the load and the directory, and keeps the books. -/
theorem exec_keeps_recallLaw (c : Instr) (s : State) (h : s.part.RecallLaw) :
    ∃ t, exec c s = .next t ∧ t.part.RecallLaw := by
  have keep {q : Part} (hq : s.part.KeepsRecall q) : q.RecallLaw := hq.recallLaw h
  have hcommand (x : ConsoleCommand) : (s.part.commandWrite x).RecallLaw := keep (s.part.commandWrite_keepsRecall x)
  have hkey (k : TerminalId) (b : Byte) (fault : Bool) : (s.part.whenRunning (Part.keyReceived k b fault)).RecallLaw :=
    keep (.whenRunning (.of_view (s.part.keyReceived_recallView k b fault)))
  cases c with
  | fullReset => exact ⟨_, rfl, (Part.directoryLaw_of_empty rfl rfl).recallLaw nofun⟩
  | configItemRead bytes => exact ⟨_, rfl, Part.itemRead_recallLaw h bytes⟩
  | loadCompletion balance => exact ⟨_, rfl, Part.loadCompletion_recallLaw h balance⟩
  | endOfTransmission bytes => exact ⟨_, rfl, keep (s.part.endOfTransmission_keepsRecall bytes)⟩
  | lineBusy => exact ⟨_, rfl, keep (.of_view (s.part.onLine_recallView (Line.becomeBusy_queue _)))⟩
  | interframeGapExpiry =>
    exact ⟨_, rfl, keep (.whenRunning (.of_view (s.part.onLine_recallView Line.gapExpiry_queue)))⟩
  | backoffExpiry => exact ⟨_, rfl, keep (.whenRunning (.of_view (s.part.onLine_recallView Line.backoffExpiry_queue)))⟩
  | sendComplete => exact ⟨_, rfl, keep (.whenRunning s.part.sendComplete_keepsRecall)⟩
  | clash => exact ⟨_, rfl, keep (.whenRunning s.part.clash_keepsRecall)⟩
  | paceExpiry => exact ⟨_, rfl, keep (.whenRunning s.part.paceExpiry_keepsRecall)⟩
  | waitExpiry i => exact ⟨_, rfl, keep (.whenRunning (s.part.waitExpiry_keepsRecall i))⟩
  | holdoffExpiry i => exact ⟨_, rfl, keep (.whenRunning (s.part.holdoffExpiry_keepsRecall i))⟩
  | boardFormationCompletion => exact ⟨_, rfl, keep (.whenRunning (.of_view s.part.boardFormed_recallView))⟩
  | ribbonFormationCompletion => exact ⟨_, rfl, keep (.whenRunning (.of_view s.part.ribbonFormed_recallView))⟩
  | terminalFormationCompletion => exact ⟨_, rfl, keep (.whenRunning (.of_view s.part.terminalFormed_recallView))⟩
  | secondTimerExpiry => exact ⟨_, rfl, keep (.whenRunning s.part.secondExpiry_keepsRecall)⟩
  | panelWriteCompletion => exact ⟨_, rfl, keep (.of_view s.part.panelWriteComplete_recallView)⟩
  | flashTimerExpiry k => exact ⟨_, rfl, keep (.whenRunning (.of_view (s.part.flashExpiry_recallView k)))⟩
  | advanceExpiry ready => exact ⟨_, rfl, keep (.of_view (s.part.advanceExpiry_recallView ready))⟩
  | outputRunCompletion k => exact ⟨_, rfl, keep (.of_view (s.part.runComplete_recallView k))⟩
  | highlightExpiry k row => exact ⟨_, rfl, keep (.whenRunning (.of_view (s.part.highlightExpiry_recallView k row)))⟩
  | keyCharacter k b fault => exact ⟨_, rfl, hkey k b fault⟩
  | backspace k => exact ⟨_, rfl, hkey k backspaceCode false⟩
  | selectPage k | selectWatch k | addToWatch k | removeFromWatch k | showDetail k | unknownCommand k =>
    exact ⟨_, rfl, hkey k returnCode false⟩
  | enterSale | enterQuote | enterState | enterNotice | hold | release | readRecord | setClock | clearStatus
  | abortClear | repaint | blank | warmRestart => exact ⟨_, rfl, hcommand _⟩
  | unknownCommandCode code => exact ⟨_, rfl, hcommand _⟩
  | dataWrite v => exact ⟨_, rfl, keep (s.part.dataWrite_keepsRecall v)⟩
  | dataRead | flagsRead | maskWrite v | ignoredRegisterWrite v => exact ⟨_, rfl, h⟩

/-- Settles O9: a step is idle or the execution of the front command, and every command keeps the law. -/
theorem recallLawKept : Obligations.RecallLawKept := by
  intro s t h hstep
  unfold step at hstep
  split at hstep
  · cases hstep
    exact h
  · rename_i c rest _
    obtain ⟨t', ht', hlaw⟩ := exec_keeps_recallLaw c { s with pending := rest } h
    rw [ht'] at hstep
    cases hstep
    exact hlaw

end Sys2Proof.Machine
end

section
/-! The Recall Unit's timers and what it does on a heard RECALL (R47 to R56). -/

namespace Sys2Proof.Machine

/-! ### Frames that join while another is being sent (R70) -/

section
variable (p : Part)

theorem Part.takeFrame_of_sending (h : p.line.current.isSome = true) : p.takeFrame = p := by
  simp [Part.takeFrame, h]

theorem Part.offer_of_sending (b : TxBody) (hq : p.line.queue.length < Config.queuePlaces)
    (hc : p.line.current.isSome = true) :
    p.offer b = ({ p with line := { p.line with
      queue := p.line.queue ++ [⟨p.line.nextAge, b⟩], nextAge := p.line.nextAge + 1 } }, true) := by
  rw [p.offer_of_room b hq, Part.joinQueue, Part.takeFrame_of_sending]
  exact hc

/-! ### The timers (R47, R50, R56) -/

/-- R47: while the pace timer runs the test queues nothing. -/
theorem Part.recallTest_of_pace (h : p.recalls.paceRunning = true) : p.recallTest = p := by
  unfold Part.recallTest
  split
  · simp [Part.mayRecall, h]
  · rfl

/-- R47: what the test does when it may queue the head of the list. -/
theorem Part.recallTest_of_mayRecall {i : Nat} {rest : List Nat} (hl : p.recalls.list = i :: rest)
    (h : p.mayRecall = true) :
    p.recallTest = ({ p with recalls := { p.recalls with list := rest } } : Part).queueRecall i := by
  simp [Part.recallTest, hl, h]

/-- R51: a slot that is WAITING is freed with no frame to withdraw. -/
theorem Part.freeSlot_of_waiting {i : Nat} {sl : Slot}
    (hf : p.recalls.slots.find? (fun x => x.record == i) = some sl) (hw : sl.phase = .waiting) :
    p.freeSlot i =
      { p with recalls := { p.recalls with slots := p.recalls.slots.filter fun x => x.record != i } } := by
  simp [Part.freeSlot, hf, hw]

/-- R50: a wait expiry on a listen-only station. -/
theorem Part.waitExpiry_of_listenOnly {i : Nat} {sl : Slot}
    (hf : p.recalls.slots.find? (fun x => x.record == i) = some sl) (hw : sl.phase = .waiting)
    (hlo : p.line.listenOnly = true) :
    p.waitExpiry i = { p with
      recalls := { p.recalls with
        slots := p.recalls.slots.filter (fun x => x.record != i), list := p.recalls.list ++ [i] }
      records := p.records.modify i fun r => { r with recallState := .listed } } := by
  simp only [Part.waitExpiry, hf, hw, hlo, p.freeSlot_of_waiting hf hw, ne_eq, not_true_eq_false, if_false, if_true]
  rfl

/-- R50: a wait expiry before the last send. -/
theorem Part.waitExpiry_of_resend {i : Nat} {sl : Slot}
    (hf : p.recalls.slots.find? (fun x => x.record == i) = some sl) (hw : sl.phase = .waiting)
    (hlo : p.line.listenOnly = false) (hn : sl.sendCount < Config.recallSends) :
    p.waitExpiry i = (p.resend i).recallTest := by
  simp [Part.waitExpiry, hf, hw, hlo, hn]

/-- R50: a wait expiry after the last send. -/
theorem Part.waitExpiry_of_last {i : Nat} {sl : Slot}
    (hf : p.recalls.slots.find? (fun x => x.record == i) = some sl) (hw : sl.phase = .waiting)
    (hlo : p.line.listenOnly = false) (hn : ¬ sl.sendCount < Config.recallSends) :
    p.waitExpiry i = (((p.freeSlot i).setRecallState i .unanswered).raise .recallUnanswered).recallTest := by
  simp [Part.waitExpiry, hf, hw, hlo, hn]

/-- R56, R54: a station may answer from a record that is HEARD, not doubtful and of its day, unless it is
listen-only. -/
theorem Part.soundRecord_iff (r : Record) :
    p.soundRecord r = true ↔ r.heard = true ∧ r.shown.doubtful = false ∧
      (∃ d, r.recordDay = some d ∧ p.day = some d) ∧ p.line.listenOnly = false := by
  unfold Part.soundRecord
  cases r.recordDay with
  | none => simp
  | some d => simp [and_assoc, eq_comm (a := some d)]

/-- R56: the REPLY queued in a queue with room, while a frame is being sent. -/
theorem Part.queueReply_of_sending (i : Nat) (hq : p.line.queue.length < Config.queuePlaces)
    (hc : p.line.current.isSome = true) :
    p.queueReply i = { p with
      recalls := { p.recalls with
        replies := p.recalls.replies.map fun x =>
          if x.record = i then { x with phase := .queued p.line.nextAge } else x }
      line := { p.line with
        queue := p.line.queue ++ [⟨p.line.nextAge, .reply i⟩], nextAge := p.line.nextAge + 1 } } := by
  rw [Part.queueReply, Part.offer_of_sending]
  · rfl
  · exact hq
  · exact hc

/-- R56: what a holdoff expiry does to a HOLDING entry. -/
theorem Part.holdoffExpiry_of_holding {i ms : Nat} {e : ReplyEntry} {r : Record}
    (hf : p.recalls.replies.find? (fun x => x.record == i) = some e) (hh : e.phase = .holding ms)
    (hr : p.records[i]? = some r) :
    p.holdoffExpiry i = if p.soundRecord r then p.queueReply i
      else { p with recalls := { p.recalls with replies := p.recalls.replies.filter fun x => x.record != i } } := by
  simp [Part.holdoffExpiry, hf, hh, hr]

end

/-- A command of a running part that makes `q` of it. -/
theorem next_whenRunning {s : State} {f : Part → Part} {q : Part} (hrun : s.part.running = true) (h : f s.part = q) :
    (.next (s.onPart (Part.whenRunning f)) : Host.Outcome State Fault Refusal) = .next (s.withPart q) := by
  simp [State.onPart, State.withPart, Part.whenRunning, hrun, h]

/-- Settles O33: each expiry is followed through the branch that its hypotheses choose. -/
theorem recallTimersAct : Obligations.RecallTimersAct := by
  refine ⟨?_, ?_, ?_⟩
  · intro s i rest hrun hpace hlist hslots hday hlo hq hc
    refine next_whenRunning hrun ?_
    set q : Part := { s.part with recalls := { s.part.recalls with paceRunning := false } } with hdef
    have hmay : q.mayRecall = true := by
      simp [q, Part.mayRecall, Config.recallSlots, hslots, hday, hlo]
    rw [Part.paceExpiry, if_pos hpace, ← hdef, q.recallTest_of_mayRecall hlist hmay, Part.queueRecall_of_room,
      Part.takeFrame_of_sending]
    · exact hc
    · exact hq
  · intro s i sl hrun hf hw
    refine ⟨fun hlo => ?_, fun hlo hn hlist => ?_, fun hlo hn hq hc => ?_⟩ <;> refine next_whenRunning hrun ?_
    · exact s.part.waitExpiry_of_listenOnly hf hw hlo
    · rw [s.part.waitExpiry_of_last hf hw hlo (by simp [hn, Config.recallSends]), s.part.freeSlot_of_waiting hf hw]
      exact Part.recallTest_of_empty _ hlist
    · rw [s.part.waitExpiry_of_resend hf hw hlo hn, s.part.resend_of_room i hq, Part.takeFrame_of_sending]
      · exact Part.recallTest_of_pace _ rfl
      · exact hc
  · intro s i ms e r hrun hf hh hr
    refine ⟨fun hheard hdoubt hday hlo hq hc => ?_, fun hno => ?_⟩ <;> refine next_whenRunning hrun ?_
    · rw [s.part.holdoffExpiry_of_holding hf hh hr,
        if_pos ((s.part.soundRecord_iff r).mpr ⟨hheard, hdoubt, hday, hlo⟩)]
      exact s.part.queueReply_of_sending i hq hc
    · rw [s.part.holdoffExpiry_of_holding hf hh hr, if_neg]
      rw [Part.soundRecord_iff]
      rintro ⟨hheard, hdoubt, ⟨d, hrd, hd⟩, hlo⟩
      simp [hheard, hdoubt, hrd, hd, hlo] at hno

/-! ### A heard RECALL (R52 to R54) -/

section
variable {p : Part} {x : Symbol} {d : Day} {i : Nat} {r : Record}

/-- R52: a RECALL of a symbol that is not held, or of another day, is not taken. -/
theorem Part.recallHeard_of_not_taken (h : p.lookup x = none ∨ p.day ≠ some d) : p.recallHeard x d = p := by
  unfold Part.recallHeard
  split
  · rfl
  · rename_i i hl
    have hd : p.day ≠ some d := h.resolve_left (by simp [hl])
    split
    · rfl
    · exact if_neg hd

theorem Part.recallHeard_of_taken (hl : p.lookup x = some i) (hr : p.records[i]? = some r) (hd : p.day = some d) :
    p.recallHeard x d = (p.suppress i r).answer i r := by
  simp [Part.recallHeard, hl, hr, hd]

/-- R54: a doubtful record is not answered from. -/
theorem Part.answer_of_doubtful (i : Nat) (h : r.shown.doubtful = true) : p.answer i r = p := by
  simp [Part.answer, Part.soundRecord, h]

/-- R52, R53: a heard RECALL of a doubtful record suppresses, and is not answered. -/
theorem Part.recallHeard_of_doubtful (hl : p.lookup x = some i) (hr : p.records[i]? = some r) (hd : p.day = some d)
    (h : r.shown.doubtful = true) : p.recallHeard x d = p.suppress i r := by
  rw [Part.recallHeard_of_taken hl hr hd, Part.answer_of_doubtful i h]

/-- R53: with every slot in use a LISTED record stays on the list. -/
theorem Part.suppress_of_listed (hs : r.recallState = .listed) :
    p.suppress i r = if p.recalls.slots.length < Config.recallSlots then { p with
        recalls := { p.recalls with
          list := p.recalls.list.filter (· != i), slots := p.recalls.slots ++ [⟨i, 1, .waiting⟩] }
        records := p.records.modify i fun r => { r with recallState := .outstanding } }
      else p := by
  simp only [Part.suppress, hs]
  rfl

theorem Part.isQueued_iff (p : Part) (age : Nat) : p.isQueued age = true ↔ ∃ f ∈ p.line.queue, f.age = age := by
  simp [Part.isQueued]

/-- R53: the RECALL of an OUTSTANDING record is withdrawn while it is queued. -/
theorem Part.suppress_of_outstanding {sl : Slot} {age : Nat} (hs : r.recallState = .outstanding)
    (hf : p.recalls.slots.find? (fun y => y.record == i) = some sl) (hph : sl.phase = .awaitingOutcome age) :
    p.suppress i r = if p.isQueued age then { p with
        recalls := { p.recalls with
          slots := p.recalls.slots.map fun y => if y.record = i then { y with phase := .waiting } else y }
        line := { p.line with queue := p.line.queue.filter fun f => f.age != age } }
      else p := by
  simp only [Part.suppress, hs, hf, hph]
  rfl

/-- R54: the holdoff of a station that is not the record's home. -/
theorem holdoffMs_of_not_home {home : Option Nat} {station : Nat} (h : home ≠ some station) :
    holdoffMs home station = 2 * station :=
  if_neg h

/-- R54, R55: an answer joins the Reply List when there is room for it. -/
theorem Part.answer_of_sound (hsound : p.soundRecord r = true) (hen : p.settings.answerEnabled = true)
    (hst : 1 ≤ p.settings.station) (hhome : r.home ≠ some p.settings.station)
    (hnew : ∀ e ∈ p.recalls.replies, e.record ≠ i) :
    p.answer i r = if p.recalls.replies.length < Config.replyPlaces then { p with
        recalls := { p.recalls with replies := p.recalls.replies ++ [⟨i, .holding (2 * p.settings.station)⟩] } }
      else p := by
  have hms : ¬ 2 * p.settings.station = 0 := by omega
  have hany : (p.recalls.replies.any fun e => e.record == i) = false := by simpa using hnew
  simp [Part.answer, hsound, hen, hany, holdoffMs_of_not_home hhome, hms]

end

/-- Settles O34: suppression and answer are followed by the record's recall state and doubt. -/
theorem recallHeardActs : Obligations.RecallHeardActs := by
  intro p x d
  refine ⟨Part.recallHeard_of_not_taken, fun i r hl hr hd => ⟨fun hdoubt hs => ?_, ?_, ?_⟩⟩
  · rw [Part.recallHeard_of_doubtful hl hr hd hdoubt, Part.suppress_of_listed hs]
    exact ⟨fun h => if_pos h, fun h => if_neg (Nat.not_lt.mpr h)⟩
  · intro sl age hdoubt hs hf hph
    rw [Part.recallHeard_of_doubtful hl hr hd hdoubt, Part.suppress_of_outstanding hs hf hph]
    exact ⟨fun h => if_pos ((p.isQueued_iff age).mpr h),
      fun h => if_neg fun hq => (p.isQueued_iff age).mp hq |>.elim fun f hf => h f hf.1 hf.2⟩
  · intro hs hheard hdoubt hday hlo hen hst hhome hnew
    have hsound : p.soundRecord r = true := (p.soundRecord_iff r).mpr ⟨hheard, hdoubt, ⟨d, hday, hd⟩, hlo⟩
    have hsup : p.suppress i r = p := by simp [Part.suppress, hs]
    rw [Part.recallHeard_of_taken hl hr hd, hsup, Part.answer_of_sound hsound hen hst hhome hnew]
    exact ⟨fun h => if_pos h, fun h => if_neg (Nat.not_lt.mpr h)⟩

end Sys2Proof.Machine
end

section
/-! SUPPORT. What the blocks do to the line: nothing, or what keeps the Transmit Queue's law and the frame being sent
(R69 to R73). -/

namespace Sys2Proof.Machine

/-! ### Operations that leave the line as it was -/

section
variable (p : Part)

@[simp] theorem Part.endFormation_line : p.endFormation.line = p.line := by
  obtain ⟨f, rib, h, -⟩ := p.endFormation_spec
  rw [h]

@[simp] theorem Part.boardRequest_line : p.boardRequest.line = p.line := by
  obtain ⟨f, h⟩ := p.boardRequest_spec
  rw [h]

@[simp] theorem Part.boardKick_line : p.boardKick.line = p.line := by
  obtain ⟨f, b, h, -⟩ := p.boardKick_spec
  rw [h]

@[simp] theorem Part.termKick_line (k : TerminalId) : (p.termKick k).line = p.line := by
  obtain ⟨f, x, h, -⟩ := p.termKick_spec k
  rw [h]; rfl

@[simp] theorem Part.termsKick_line : p.termsKick.line = p.line := by
  obtain ⟨f, ts, h, -⟩ := p.termsKick_spec
  rw [h]

@[simp] theorem Part.ribbonRequest_line : p.ribbonRequest.line = p.line := by
  obtain ⟨f, rib, h, -⟩ := p.ribbonRequest_spec
  rw [h]

@[simp] theorem Part.onTape_line (g : TapeEnv → Tape → Tape) : (p.onTape g).line = p.line := by
  obtain ⟨f, rib, h, -⟩ := p.onTape_spec g
  rw [h]

@[simp] theorem Part.displaced_line (f : QueuedFrame) : (p.displaced f).line = p.line := by
  obtain ⟨u, i, h | h⟩ := p.displaced_spec f <;> rw [h]
  rfl

@[simp] theorem Part.markDependents_line (old : List Record) : (p.markDependents old).line = p.line := rfl

@[simp] theorem Part.adoptDay_line (d : Day) : (p.adoptDay d).line = p.line := by
  unfold Part.adoptDay
  split <;> rfl

@[simp] theorem Part.applied_line (c : Contents) (i : Nat) (r : Record) : (p.applied c i r).line = p.line := by
  obtain ⟨b, h⟩ := p.applied_spec c i r
  rw [h]

@[simp] theorem Part.tapeCandidate_line (c : SaleContents) : (p.tapeCandidate c).line = p.line := by
  unfold Part.tapeCandidate
  split
  · exact p.onTape_line _
  · rfl

@[simp] theorem Part.noticeArrives_line (u : Nat) (text : List Byte) : (p.noticeArrives u text).line = p.line := by
  unfold Part.noticeArrives
  split
  · exact p.onTape_line _
  · rfl

@[simp] theorem Part.setClock_line (t : TimeOfDay) (day : Option Day) : (p.setClock t day).line = p.line := by
  unfold Part.setClock
  simp only
  split <;> rfl

@[simp] theorem Part.clockHeard_line (w h m s : Nat) : (p.clockHeard w h m s).line = p.line := by
  unfold Part.clockHeard
  split <;> rfl

@[simp] theorem Part.blankAtClose_line : p.blankAtClose.line = p.line := by
  unfold Part.blankAtClose
  split <;> rfl

@[simp] theorem Part.openDay_line (d : Day) : (p.openDay d).line = p.line := rfl

@[simp] theorem Part.closeDay_line (d : Day) : (p.closeDay d).line = p.line := rfl

@[simp] theorem Part.sessionHeard_line (f : Day) (phase : Nat) : (p.sessionHeard f phase).line = p.line := by
  unfold Part.sessionHeard
  split
  · rfl
  · rfl
  · split <;> simp
  · split <;> simp
  · rfl

@[simp] theorem Part.boardFormed_line : p.boardFormed.line = p.line := by
  unfold Part.boardFormed
  split
  · split <;> simp
  · rfl

@[simp] theorem Part.ribbonFormed_line : p.ribbonFormed.line = p.line := by
  have hwhole (q : Part) (w : Option (Nat × Nat)) : (q.writeLastWhole w).line = q.line := by
    cases w <;> rfl
  unfold Part.ribbonFormed
  split <;> simp [hwhole]

@[simp] theorem Part.terminalFormed_line : p.terminalFormed.line = p.line := by
  unfold Part.terminalFormed
  split
  · split <;> simp
  · rfl

@[simp] theorem Part.panelWriteComplete_line : p.panelWriteComplete.line = p.line := by
  unfold Part.panelWriteComplete
  split <;> simp

@[simp] theorem Part.flashExpiry_line (k : Nat) : (p.flashExpiry k).line = p.line := by
  unfold Part.flashExpiry
  split
  · split <;> simp
  · rfl

@[simp] theorem Part.advanceExpiry_line (ready : Bool) : (p.advanceExpiry ready).line = p.line := by
  unfold Part.advanceExpiry
  split
  · rfl
  · split <;> simp

@[simp] theorem Part.runComplete_line (k : TerminalId) : (p.runComplete k).line = p.line := by
  unfold Part.runComplete
  split <;> simp

@[simp] theorem Part.highlightExpiry_line (k : TerminalId) (row : Nat) : (p.highlightExpiry k row).line = p.line := by
  unfold Part.highlightExpiry
  split
  · rfl
  · split
    · split <;> simp
    · rfl

@[simp] theorem Part.keyReceived_line (k : TerminalId) (b : Byte) (fault : Bool) :
    (p.keyReceived k b fault).line = p.line := by
  unfold Part.keyReceived
  split <;> simp

@[simp] theorem Part.recallRestart_line : p.recallRestart.line = p.line := by
  obtain ⟨rs, h, -⟩ := p.foldl_setRecallState_spec (p.recalls.slots.map Slot.record)
  simp [Part.recallRestart, h]

/-! ### Items of the image leave the line -/

@[simp] theorem Part.warnIf_line (w : Bool) : (p.warnIf w).line = p.line := by
  unfold Part.warnIf
  split <;> rfl

theorem Part.takeInstrument_line (x : InstrumentItem) : (p.takeInstrument x).line = p.line := by
  unfold Part.takeInstrument
  split <;> simp

theorem Part.takeZone_line (x : ZoneItem) : (p.takeZone x).line = p.line := by
  unfold Part.takeZone
  split
  · split <;> simp
  · simp

theorem Part.takePosition_line (x : PositionItem) : (p.takePosition x).line = p.line := by
  unfold Part.takePosition
  split <;> simp

theorem Part.takePage_line (n : Nat) (ss : List Symbol) : (p.takePage n ss).line = p.line := by
  unfold Part.takePage
  split <;> simp

theorem Part.takeTimetable_line (x : TimetableItem) : (p.takeTimetable x).line = p.line := by
  unfold Part.takeTimetable
  split <;> simp

theorem readItem_line {sec : ImageSection} {bs rest : List Byte} {take : Part → Part}
    (h : readItem sec bs = .got take rest) : (take p).line = p.line := by
  cases sec with
  | header =>
    simp only [readItem] at h
    split at h <;> cases h
    exact Part.warnIf_line _ _
  | instruments =>
    simp only [readItem] at h
    split at h <;> cases h
    exact p.takeInstrument_line _
  | layouts =>
    simp only [readItem] at h
    split at h <;> cases h
    exact Part.warnIf_line _ _
  | zones =>
    simp only [readItem] at h
    split at h <;> cases h
    exact p.takeZone_line _
  | positions =>
    simp only [readItem] at h
    split at h <;> cases h
    exact p.takePosition_line _
  | pages =>
    simp only [readItem] at h
    split at h <;> cases h
    exact p.takePage_line _ _
  | timetable =>
    simp only [readItem] at h
    split at h <;> cases h
    exact p.takeTimetable_line _

end

/-! ### The queue's order, and what an event does to the line -/

/-- R69: at most 16 frames wait, in order of their age. -/
def Line.Ordered (l : Line) : Prop :=
  l.queue.length ≤ Config.queuePlaces ∧ (l.queue.map QueuedFrame.age).Pairwise (· < ·) ∧
    ∀ f ∈ l.queue, f.age < l.nextAge

theorem Line.queueLaw_iff (l : Line) : l.QueueLaw ↔ l.Ordered ∧ (l.current = none → l.queue = []) :=
  ⟨fun ⟨hlen, hidle, hage, hnext⟩ => ⟨⟨hlen, hage, hnext⟩, hidle⟩,
    fun ⟨⟨hlen, hage, hnext⟩, hidle⟩ => ⟨hlen, hidle, hage, hnext⟩⟩

theorem Line.queueLaw_of_empty {l : Line} (h : l.queue = []) : l.QueueLaw := by
  simp [Line.QueueLaw, h]

/-- What an event that ends no send does to the line: the queue's law is kept, and the frame being sent stays as it
is. -/
structure Line.Serves (l l' : Line) : Prop where
  law : l.QueueLaw → l'.QueueLaw
  current : ∀ x, l.current = some x → l'.current = some x

section
variable {l l' l'' : Line}

theorem Line.Ordered.of_fewer (h : l.Ordered) (hq : l'.queue.Sublist l.queue) (ha : l'.nextAge = l.nextAge) :
    l'.Ordered := by
  obtain ⟨hlen, hage, hnext⟩ := h
  refine ⟨hq.length_le.trans hlen, hage.sublist (hq.map _), fun f hf => ?_⟩
  rw [ha]
  exact hnext f (hq.subset hf)

namespace Line.Serves

theorem refl (l : Line) : l.Serves l := ⟨id, fun _ => id⟩

theorem trans (h : l.Serves l') (h' : l'.Serves l'') : l.Serves l'' :=
  ⟨h'.law ∘ h.law, fun x => h'.current x ∘ h.current x⟩

theorem of_eq (h : l' = l) : l.Serves l' := h ▸ refl l

/-- Frames that leave the queue, withdrawn by their owners (R72). -/
theorem of_fewer (hq : l'.queue.Sublist l.queue) (ha : l'.nextAge = l.nextAge) (hc : l'.current = l.current) :
    l.Serves l' := by
  refine ⟨fun h => ?_, fun x hx => hc.trans hx⟩
  obtain ⟨hord, hidle⟩ := l.queueLaw_iff.mp h
  exact l'.queueLaw_iff.mpr ⟨hord.of_fewer hq ha, fun hn => List.sublist_nil.mp (hidle (hc ▸ hn) ▸ hq)⟩

theorem of_same (hq : l'.queue = l.queue) (ha : l'.nextAge = l.nextAge) (hc : l'.current = l.current) : l.Serves l' :=
  of_fewer (hq ▸ List.Sublist.refl _) ha hc

end Line.Serves

end

/-! ### Frames taken, joined and displaced (R70, R71) -/

section
variable (p : Part)

/-- R71: a frame is chosen unless none waits. -/
theorem chosenFrame_eq_none_iff (q : List QueuedFrame) : chosenFrame q = none ↔ q = [] := by
  unfold chosenFrame
  constructor
  · intro h
    split at h
    · cases h
    · split at h
      · cases h
      · exact List.head?_eq_none_iff.mp h
  · rintro rfl
    rfl

/-- R71: after the taking an IDLE transmitter has left nothing waiting. -/
theorem Part.takeFrame_queueLaw (h : p.line.Ordered) : p.takeFrame.line.QueueLaw := by
  refine (Line.queueLaw_iff _).mpr ?_
  unfold Part.takeFrame
  split
  · rename_i hsending
    exact ⟨h, fun hn => by simp [hn] at hsending⟩
  · split
    · rename_i hnone
      exact ⟨h, fun _ => (chosenFrame_eq_none_iff _).mp hnone⟩
    · exact ⟨h.of_fewer List.filter_sublist rfl, nofun⟩

theorem Part.joinQueue_queueLaw (b : TxBody) (h : p.line.Ordered) (hroom : p.line.queue.length < Config.queuePlaces) :
    (p.joinQueue b).line.QueueLaw := by
  obtain ⟨-, hage, hnext⟩ := h
  refine Part.takeFrame_queueLaw _ ⟨?_, ?_, ?_⟩
  · rw [List.length_append]
    exact hroom
  · rw [List.map_append]
    refine List.pairwise_append.mpr ⟨hage, List.pairwise_singleton _ _, ?_⟩
    simpa using hnext
  · intro f hf
    rcases List.mem_append.mp hf with hf | hf
    · exact (hnext f hf).trans (Nat.lt_succ_self _)
    · rw [List.mem_singleton.mp hf]
      exact Nat.lt_succ_self _

theorem Part.joinQueue_current (b : TxBody) {x : Sending} (h : p.line.current = some x) :
    (p.joinQueue b).line.current = some x := by
  obtain ⟨l, hj, -, -, -, hl⟩ := p.joinQueue_spec b
  rw [hj, hl (by simp [h])]
  exact h

/-- R70: an offer joins, displaces one frame and joins, or changes nothing. -/
theorem Part.offer_serves (b : TxBody) : p.line.Serves (p.offer b).1.line := by
  unfold Part.offer
  split
  · rename_i hroom
    exact ⟨fun h => p.joinQueue_queueLaw b ((Line.queueLaw_iff _).mp h).1 hroom, fun x => p.joinQueue_current b⟩
  · split
    · split
      · rename_i f hf
        refine ⟨fun h => ?_, fun x hx => ?_⟩
        · obtain ⟨hord, -⟩ := (Line.queueLaw_iff _).mp h
          refine Part.joinQueue_queueLaw _ b ?_ ?_ <;> rw [Part.displaced_line]
          · exact hord.of_fewer List.filter_sublist rfl
          · refine lt_of_lt_of_le ?_ hord.1
            exact List.length_filter_lt_length_iff_exists.mpr ⟨f, mem_of_youngestLow hf, by simp⟩
        · refine Part.joinQueue_current _ b ?_
          rw [Part.displaced_line]
          exact hx
      · exact .refl _
    · exact .refl _

/-! ### Recalls and replies (Section 3) -/

theorem Part.queueRecall_serves (i : Nat) : p.line.Serves (p.queueRecall i).line := by
  have hoffer (u : Recall) :
      p.line.Serves ((({ p with recalls := u } : Part).setRecallState i .outstanding).offer (.recallFor i)).1.line :=
    Part.offer_serves (({ p with recalls := u } : Part).setRecallState i .outstanding) _
  unfold Part.queueRecall
  simp only
  split <;> exact hoffer _

theorem Part.recallTest_serves : p.line.Serves p.recallTest.line := by
  unfold Part.recallTest
  split
  · rename_i i rest _
    split
    · exact Part.queueRecall_serves { p with recalls := { p.recalls with list := rest } } i
    · exact .refl _
  · exact .refl _

variable {p} in
theorem Line.Serves.recallTest {l : Line} (h : l.Serves p.line) : l.Serves p.recallTest.line :=
  h.trans p.recallTest_serves

theorem Part.paceExpiry_serves : p.line.Serves p.paceExpiry.line := by
  unfold Part.paceExpiry
  split
  · exact Line.Serves.recallTest (.refl _)
  · exact .refl _

theorem Part.freeSlot_serves (i : Nat) : p.line.Serves (p.freeSlot i).line := by
  obtain ⟨q, h, hq⟩ := p.freeSlot_spec i
  rw [h]
  exact .of_fewer hq rfl rfl

theorem Part.dropReply_serves (i : Nat) : p.line.Serves (p.dropReply i).line := by
  obtain ⟨rs, q, h, -, hq⟩ := p.dropReply_spec i
  rw [h]
  exact .of_fewer hq rfl rfl

theorem Part.resend_serves (i : Nat) : p.line.Serves (p.resend i).line := by
  have hoffer (u : Recall) : p.line.Serves (({ p with recalls := u } : Part).offer (.recallFor i)).1.line :=
    Part.offer_serves { p with recalls := u } _
  unfold Part.resend
  simp only
  split <;> exact hoffer _

theorem Part.waitExpiry_serves (i : Nat) : p.line.Serves (p.waitExpiry i).line := by
  unfold Part.waitExpiry
  split
  · split
    · exact .refl _
    · split
      · exact p.freeSlot_serves i
      · split
        · exact (p.resend_serves i).recallTest
        · exact Line.Serves.recallTest (p.freeSlot_serves i)
  · exact .refl _

theorem Part.suppress_serves (i : Nat) (r : Record) : p.line.Serves (p.suppress i r).line := by
  unfold Part.suppress
  split
  · split <;> exact .refl _
  · split
    · split
      · split
        · exact .of_fewer List.filter_sublist rfl rfl
        · exact .refl _
      · exact .refl _
    · exact .refl _
  · exact .refl _
  · exact .refl _

theorem Part.queueReply_serves (i : Nat) : p.line.Serves (p.queueReply i).line := by
  have hoffer (u : Recall) : p.line.Serves (({ p with recalls := u } : Part).offer (.reply i)).1.line :=
    Part.offer_serves { p with recalls := u } _
  unfold Part.queueReply
  simp only
  split <;> exact hoffer _

theorem Part.holdoffExpiry_serves (i : Nat) : p.line.Serves (p.holdoffExpiry i).line := by
  unfold Part.holdoffExpiry
  split
  · split
    · split
      · exact p.queueReply_serves i
      · exact .refl _
    · exact .refl _
  · exact .refl _

theorem Part.answer_serves (i : Nat) (r : Record) : p.line.Serves (p.answer i r).line := by
  have hexpiry (u : Recall) : p.line.Serves (({ p with recalls := u } : Part).holdoffExpiry i).line :=
    Part.holdoffExpiry_serves { p with recalls := u } i
  unfold Part.answer
  split
  · simp only
    split
    · exact hexpiry _
    · exact .refl _
  · exact .refl _

theorem Part.recallHeard_serves (s : Symbol) (d : Day) : p.line.Serves (p.recallHeard s d).line := by
  unfold Part.recallHeard
  split
  · exact .refl _
  · split
    · exact .refl _
    · split
      · exact (p.suppress_serves _ _).trans (Part.answer_serves _ _ _)
      · exact .refl _

/-! ### Judgement (R6, R12, R60) -/

theorem Part.makeDoubtful_serves (i : Nat) : p.line.Serves (p.makeDoubtful i).line := by
  obtain ⟨u, rs, q, h, -, -, hq⟩ := p.makeDoubtful_spec i
  rw [h]
  exact .of_fewer hq rfl rfl

theorem Part.applyContents_serves (c : Contents) (i : Nat) (r : Record) : p.line.Serves (p.applyContents c i r).line := by
  cases hg : c.gate r with
  | ignored =>
    rw [Part.applyContents_of_ignored hg]
    exact .refl _
  | applied doubt =>
    have happlied : p.line.Serves (p.applied c i r).line := .of_eq (p.applied_line c i r)
    cases c with
    | reply x =>
      obtain ⟨q, h, hq⟩ := (p.applied (.reply x) i r).satisfyRecall_spec i r.recallState
      rw [Part.applyContents_reply hg, h]
      exact happlied.trans (.of_fewer hq rfl rfl)
    | sale x | quote x | state x =>
      rw [Part.applyContents_report ?_ hg]
      · split
        · exact happlied.trans (Part.makeDoubtful_serves _ i)
        · exact happlied
      · nofun

theorem Part.judge_serves (c : Contents) : p.line.Serves (p.judge c).line := by
  have hday : p.line.Serves (p.adoptDay c.day).line := .of_eq (p.adoptDay_line c.day)
  rw [Part.judge, Part.markDependents_line]
  unfold Part.judgeCore
  split
  · simp only
    split
    · exact hday
    · split
      · exact hday
      · split
        · exact hday.trans (Part.applyContents_serves _ c _ _)
        · exact hday
  · split
    · exact p.makeDoubtful_serves _
    · exact .refl _

theorem Part.replyHeard_serves (c : ReplyContents) : p.line.Serves (p.replyHeard c).line := by
  refine Line.Serves.trans ?_ (Part.judge_serves _ (.reply c))
  split
  · split
    · split
      · exact p.dropReply_serves _
      · exact .refl _
    · exact .refl _
  · exact .refl _

/-! ### Session Clock and Timetable (R79 to R90) -/

theorem Part.settle_serves : p.line.Serves p.settle.line := by
  refine Line.Serves.recallTest (.of_eq ?_)
  simp

variable {p} in
theorem Line.Serves.settle {l : Line} (h : l.Serves p.line) : l.Serves p.settle.line :=
  h.trans p.settle_serves

theorem Part.offerOwn_serves (b : TxBody) : p.line.Serves (p.offerOwn b).line := by
  unfold Part.offerOwn
  split
  · exact .refl _
  · exact p.offer_serves b

theorem Part.openAction_serves : p.line.Serves p.openAction.line := by
  unfold Part.openAction
  split
  · exact Part.offerOwn_serves (p.openDay _) _
  · exact .refl _

theorem Part.closeAction_serves : p.line.Serves p.closeAction.line := by
  unfold Part.closeAction
  split
  · rw [Part.blankAtClose_line]
    exact Part.offerOwn_serves (p.closeDay _) _
  · exact .refl _

theorem Part.performAction_serves (hour minute : Nat) (a : TimetableAction) :
    p.line.Serves (p.performAction hour minute a).line := by
  refine Line.Serves.settle ?_
  cases a with
  | openSession => exact p.openAction_serves
  | closeSession => exact p.closeAction_serves
  | tapeTime => exact .of_eq (p.onTape_line fun env => Tape.join env .routine (.tapeTime hour minute))
  | repaint => exact .refl _
  | sendClock =>
    simp only
    split
    · exact p.offerOwn_serves .clock
    · exact .refl _

theorem Part.minuteBoundary_serves (t : TimeOfDay) : p.line.Serves (p.minuteBoundary t).line := by
  have hfold (hour minute : Nat) (es : List TimetableEntry) (q : Part) :
      q.line.Serves (es.foldl (fun q e => q.performAction hour minute e.action) q).line := by
    induction es generalizing q with
    | nil => exact .refl _
    | cons e es ih =>
      rw [List.foldl_cons]
      exact (q.performAction_serves hour minute e.action).trans (ih _)
  exact hfold _ _ _ p

theorem Part.secondExpiry_serves : p.line.Serves p.secondExpiry.line := by
  unfold Part.secondExpiry
  split
  · exact .refl _
  · simp only
    split
    · exact Part.minuteBoundary_serves (p.setTime _) _
    · exact .refl _

/-! ### Frames heard (R64 to R68) -/

theorem Part.saleArrives_serves (c : SaleContents) : p.line.Serves (p.saleArrives c).line := by
  simpa [Part.saleArrives] using p.judge_serves (.sale c)

theorem Part.handFrame_serves (b : FrameBody) : p.line.Serves (p.handFrame b).line := by
  cases b with
  | sale c => exact p.saleArrives_serves c
  | quote c => exact p.judge_serves (.quote c)
  | state c => exact p.judge_serves (.state c)
  | recallFor s d => exact p.recallHeard_serves s d
  | reply c => exact p.replyHeard_serves c
  | notice u t => exact .of_eq (p.noticeArrives_line u t)
  | session d ph => exact .of_eq (p.sessionHeard_line d ph)
  | clock w hr m s => exact .of_eq (p.clockHeard_line w hr m s)
  | hold g a => exact .refl _

/-- R67: a duplicate station number found changes listen-only alone. -/
theorem Part.checkOrigin_serves (origin : Nat) : p.line.Serves (p.checkOrigin origin).line := by
  unfold Part.checkOrigin
  split
  · exact .of_same rfl rfl rfl
  · exact .refl _

theorem Part.judgeFrame_serves (bytes : List Byte) : p.line.Serves (p.judgeFrame bytes).line := by
  unfold Part.judgeFrame
  split
  · exact .refl _
  · exact ((p.checkOrigin_serves _).trans (Part.handFrame_serves _ _)).settle

theorem Part.endOfTransmission_serves (bytes : List Byte) : p.line.Serves (p.endOfTransmission bytes).line := by
  have hquiet : p.line.Serves (p.onLine Line.becomeQuiet).line := .of_same rfl rfl rfl
  unfold Part.endOfTransmission
  split
  · exact .refl _
  · simp only
    split
    · exact hquiet.trans (Part.judgeFrame_serves _ bytes)
    · exact hquiet

theorem Line.becomeBusy_serves (judged : Bool) (l : Line) : l.Serves (l.becomeBusy judged) := by
  unfold Line.becomeBusy
  split
  · exact .of_same rfl rfl rfl
  · exact .refl _

/-! ### Console (R162 to R173) -/

theorem Part.offerEntry_serves (b : TxBody) : p.line.Serves (p.offerEntry b).line := by
  unfold Part.offerEntry
  simp only
  split
  · exact Line.Serves.recallTest (p.offer_serves b)
  · exact p.offer_serves b

theorem Part.Answered.serves {p q : Part} (h : p.Answered q) : p.line.Serves q.line := by
  cases h with
  | finished r => exact .refl _
  | offered b => exact p.offerEntry_serves b

theorem Part.judgeSetClock_serves (b : List Byte) : p.line.Serves (p.judgeSetClock b).line := by
  unfold Part.judgeSetClock
  simp only
  split
  · exact Line.Serves.recallTest (.of_eq (p.setClock_line _ _))
  · exact .refl _

theorem Part.judgeBody_serves (c : ConsoleCommand) (b : List Byte) : p.line.Serves (p.judgeBody c b).line := by
  cases c with
  | enterSale => exact (p.judgeSale_answered b).serves
  | enterQuote => exact (p.judgeQuote_answered b).serves
  | enterState => exact (p.judgeState_answered b).serves
  | enterNotice => exact (p.judgeNotice_answered b).serves
  | hold => exact (p.judgeHold_answered b).serves
  | release => exact (p.judgeRelease_answered b).serves
  | readRecord =>
    show p.line.Serves (p.judgeReadRecord b).line
    unfold Part.judgeReadRecord
    split <;> exact .refl _
  | setClock => exact p.judgeSetClock_serves b
  | clearStatus | abortClear | repaint | blank | warmRestart | unknown => exact .refl _

theorem Part.dataWrite_serves (v : Byte) : p.line.Serves (p.dataWrite v).line := by
  unfold Part.dataWrite
  split
  · split <;> exact .refl _
  · split
    · exact .refl _
    · exact p.judgeBody_serves _ _
  · exact .refl _

/-- R78, R173: the queue is emptied, and the frame being sent goes on. -/
theorem Part.warmRestart_serves : p.line.Serves p.warmRestart.line := by
  unfold Part.warmRestart
  refine Line.Serves.settle (.of_fewer ?_ ?_ ?_) <;> simp

theorem Part.commandReady_serves (c : ConsoleCommand) : p.line.Serves (p.commandReady c).line := by
  cases c with
  | warmRestart => exact p.warmRestart_serves
  | repaint | blank => exact .of_eq (Part.boardKick_line _)
  | enterSale | enterQuote | enterState | enterNotice | hold | release | readRecord | setClock | clearStatus
  | abortClear | unknown => exact .refl _

theorem Part.commandWrite_serves (c : ConsoleCommand) : p.line.Serves (p.commandWrite c).line := by
  unfold Part.commandWrite
  split
  · exact p.commandReady_serves c
  · exact .refl _
  · split
    · exact .refl _
    · exact p.warmRestart_serves
    · exact .refl _
  · split <;> exact .refl _
  · exact .refl _
  · exact .refl _

/-! ### Sends that end (R74) -/

theorem Part.handOn_serves (b : TxBody) : p.line.Serves (p.handOn b).line := by
  cases b with
  | sale c => exact p.saleArrives_serves c
  | quote c => exact p.judge_serves (.quote c)
  | state c => exact p.judge_serves (.state c)
  | notice u t => exact .of_eq (p.noticeArrives_line u t)
  | hold g a => exact .refl _
  | recallFor i | reply i | session d ph | clock => exact .refl _

theorem Part.entryOutcome_serves (f : QueuedFrame) (sent : Bool) : p.line.Serves (p.entryOutcome f sent).line := by
  have hand {q : Part} (hq : p.line.Serves q.line) :
      p.line.Serves (if sent then (q.handOn f.body).settle else q).line := by
    split
    · exact (hq.trans (q.handOn_serves f.body)).settle
    · exact hq
  unfold Part.entryOutcome
  split
  · exact hand (.refl _)
  · split
    · exact hand (.refl _)
    · exact .refl _

theorem Part.ownerOutcome_serves (f : QueuedFrame) (sent : Bool) : p.line.Serves (p.ownerOutcome f sent).line := by
  unfold Part.ownerOutcome
  cases f.body with
  | recallFor i | reply i | session d ph | clock => exact .refl _
  | sale c | quote c | state c | notice u text | hold g a => exact p.entryOutcome_serves f sent

end

end Sys2Proof.Machine
end

section
/-! The Transmit Queue's law is kept by every command (R69 to R71). -/

namespace Sys2Proof.Machine

section
variable {p : Part}

/-! ### The transmitter's own events (R71, R73 to R75) -/

/-- R71, R74: the queue that the owner leaves stands in order, and the IDLE transmitter takes of it. -/
theorem Part.endSend_queueLaw (h : p.line.QueueLaw) (sent : Bool) : (p.endSend sent).line.QueueLaw := by
  unfold Part.endSend
  split
  · exact h
  · rename_i x _
    obtain ⟨hord, -⟩ := (Line.queueLaw_iff _).mp ((p.ownerOutcome_serves x.frame sent).law h)
    exact Part.takeFrame_queueLaw _ hord

theorem Part.sendComplete_queueLaw (h : p.line.QueueLaw) : p.sendComplete.line.QueueLaw := by
  unfold Part.sendComplete
  split
  · exact Part.endSend_queueLaw h true
  · exact h

/-- A transmitter that goes on to another state with its frame leaves the law. -/
theorem Line.QueueLaw.of_sending {l l' : Line} {x : Sending} (h : l.QueueLaw) (hq : l'.queue = l.queue)
    (ha : l'.nextAge = l.nextAge) (hc : l'.current = some x) : l'.QueueLaw := by
  obtain ⟨hord, -⟩ := l.queueLaw_iff.mp h
  exact l'.queueLaw_iff.mpr ⟨hord.of_fewer (hq ▸ List.Sublist.refl _) ha, fun hn => by simp [hc] at hn⟩

theorem Part.clash_queueLaw (h : p.line.QueueLaw) : p.clash.line.QueueLaw := by
  unfold Part.clash
  split
  · exact h
  · split
    · exact h
    · split
      · exact h.of_sending rfl rfl rfl
      · exact Part.endSend_queueLaw h false

theorem Line.gapExpiry_queueLaw {l : Line} (h : l.QueueLaw) : l.gapExpiry.QueueLaw := by
  unfold Line.gapExpiry
  split
  · split
    · exact h.of_sending rfl rfl rfl
    · exact h
  · exact h

theorem Line.backoffExpiry_queueLaw {l : Line} (h : l.QueueLaw) : l.backoffExpiry.QueueLaw := by
  unfold Line.backoffExpiry
  split
  · split
    · exact h.of_sending rfl rfl rfl
    · exact h
  · exact h

/-! ### Loading (R77, R175 to R178) -/

theorem Part.itemRead_queueLaw (h : p.line.QueueLaw) (bytes : List Byte) : (p.itemRead bytes).line.QueueLaw := by
  unfold Part.itemRead
  split
  · exact h
  · simp only
    split
    · exact h
    · exact Line.queueLaw_of_empty rfl
    · rename_i hitem
      rw [Part.onLoader_line, readItem_line _ hitem]
      exact h

theorem Part.loadCompletion_queueLaw (h : p.line.QueueLaw) (balance : Word16) :
    (p.loadCompletion balance).line.QueueLaw := by
  unfold Part.loadCompletion
  split
  · split
    · exact p.startingValues.settle_serves.law (Line.queueLaw_of_empty rfl)
    · exact Line.queueLaw_of_empty rfl
  · exact h

/-! ### Every command -/

theorem Part.whenRunning_queueLaw {f : Part → Part} (h : p.line.QueueLaw) (hf : (f p).line.QueueLaw) :
    (p.whenRunning f).line.QueueLaw := by
  unfold Part.whenRunning
  split
  · exact hf
  · exact h

end

theorem exec_keeps_queueLaw (c : Instr) (s : State) (h : s.part.line.QueueLaw) :
    ∃ t, exec c s = .next t ∧ t.part.line.QueueLaw := by
  have serves {q : Part} (hq : s.part.line.Serves q.line) : q.line.QueueLaw := hq.law h
  have same {q : Part} (hq : q.line = s.part.line) : q.line.QueueLaw := hq ▸ h
  have running {f : Part → Part} (hf : (f s.part).line.QueueLaw) : (s.part.whenRunning f).line.QueueLaw :=
    Part.whenRunning_queueLaw h hf
  have command (x : ConsoleCommand) : (s.part.commandWrite x).line.QueueLaw := serves (s.part.commandWrite_serves x)
  have key (k : TerminalId) (b : Byte) (fault : Bool) :
      (s.part.whenRunning (Part.keyReceived k b fault)).line.QueueLaw := running (same (s.part.keyReceived_line k b fault))
  cases c with
  | fullReset => exact ⟨_, rfl, Line.queueLaw_of_empty rfl⟩
  | configItemRead bytes => exact ⟨_, rfl, Part.itemRead_queueLaw h bytes⟩
  | loadCompletion balance => exact ⟨_, rfl, Part.loadCompletion_queueLaw h balance⟩
  | endOfTransmission bytes => exact ⟨_, rfl, serves (s.part.endOfTransmission_serves bytes)⟩
  | lineBusy => exact ⟨_, rfl, (s.part.line.becomeBusy_serves _).law h⟩
  | interframeGapExpiry => exact ⟨_, rfl, running (Line.gapExpiry_queueLaw h)⟩
  | backoffExpiry => exact ⟨_, rfl, running (Line.backoffExpiry_queueLaw h)⟩
  | sendComplete => exact ⟨_, rfl, running (Part.sendComplete_queueLaw h)⟩
  | clash => exact ⟨_, rfl, running (Part.clash_queueLaw h)⟩
  | paceExpiry => exact ⟨_, rfl, running (serves s.part.paceExpiry_serves)⟩
  | waitExpiry i => exact ⟨_, rfl, running (serves (s.part.waitExpiry_serves i))⟩
  | holdoffExpiry i => exact ⟨_, rfl, running (serves (s.part.holdoffExpiry_serves i))⟩
  | boardFormationCompletion => exact ⟨_, rfl, running (same s.part.boardFormed_line)⟩
  | ribbonFormationCompletion => exact ⟨_, rfl, running (same s.part.ribbonFormed_line)⟩
  | terminalFormationCompletion => exact ⟨_, rfl, running (same s.part.terminalFormed_line)⟩
  | secondTimerExpiry => exact ⟨_, rfl, running (serves s.part.secondExpiry_serves)⟩
  | panelWriteCompletion => exact ⟨_, rfl, same s.part.panelWriteComplete_line⟩
  | flashTimerExpiry k => exact ⟨_, rfl, running (same (s.part.flashExpiry_line k))⟩
  | advanceExpiry ready => exact ⟨_, rfl, same (s.part.advanceExpiry_line ready)⟩
  | outputRunCompletion k => exact ⟨_, rfl, same (s.part.runComplete_line k)⟩
  | highlightExpiry k row => exact ⟨_, rfl, running (same (s.part.highlightExpiry_line k row))⟩
  | keyCharacter k b fault => exact ⟨_, rfl, key k b fault⟩
  | backspace k => exact ⟨_, rfl, key k backspaceCode false⟩
  | selectPage k | selectWatch k | addToWatch k | removeFromWatch k | showDetail k | unknownCommand k =>
    exact ⟨_, rfl, key k returnCode false⟩
  | enterSale | enterQuote | enterState | enterNotice | hold | release | readRecord | setClock | clearStatus
  | abortClear | repaint | blank | warmRestart => exact ⟨_, rfl, command _⟩
  | unknownCommandCode code => exact ⟨_, rfl, command _⟩
  | dataWrite v => exact ⟨_, rfl, serves (s.part.dataWrite_serves v)⟩
  | dataRead | flagsRead | maskWrite v | ignoredRegisterWrite v => exact ⟨_, rfl, h⟩

/-- Settles O6: a step is idle or the execution of the front command, and every command keeps the law. -/
theorem queueLawKept : Obligations.QueueLawKept := by
  intro s t h hstep
  unfold step at hstep
  split at hstep
  · cases hstep
    exact h
  · rename_i c rest _
    obtain ⟨t', ht', hlaw⟩ := exec_keeps_queueLaw c { s with pending := rest } h
    rw [ht'] at hstep
    cases hstep
    exact hlaw

end Sys2Proof.Machine
end

section
/-! The line's sense, the transmitter's states and the outcomes of its frames (R64, R65, R73 to R75, R168). -/

namespace Sys2Proof.Machine

/-- A command that makes `q` of the part. -/
theorem next_onPart {s : State} {f : Part → Part} {q : Part} (h : f s.part = q) :
    (.next (s.onPart f) : Host.Outcome State Fault Refusal) = .next (s.withPart q) := by
  rw [State.onPart, h, State.withPart]

theorem Part.onLine_of {p : Part} {f : Line → Line} {l : Line} (h : f p.line = l) :
    p.onLine f = { p with line := l } := by
  rw [Part.onLine, h]

/-! ### The line as sensed (R64, R73) -/

theorem LineSense.isQuiet_eq_decide (x : LineSense) : x.isQuiet = decide (x = .quiet) := by
  cases x <;> simp [LineSense.isQuiet]

theorem Line.driverEnabled_of_current {l : Line} {x : Sending} (h : l.current = some x) :
    l.driverEnabled = decide (x.phase = .sending) := by
  rw [Line.driverEnabled, h]
  rfl

theorem Line.becomeBusy_of_quiet {l : Line} (judged : Bool) (h : l.sense = .quiet) :
    l.becomeBusy judged = { l with sense := .busy judged, gapRunning := false } := by
  simp [Line.becomeBusy, h]

theorem Line.becomeBusy_of_busy {l : Line} {b : Bool} (judged : Bool) (h : l.sense = .busy b) :
    l.becomeBusy judged = l := by
  simp [Line.becomeBusy, h]

/-- R73: a deferring transmitter begins to send on the gap timer's expiry. -/
theorem Line.gapExpiry_of_deferring {l : Line} {x : Sending} (hg : l.gapRunning = true) (hs : l.sense = .quiet)
    (hc : l.current = some x) (hx : x.phase = .deferring) :
    l.gapExpiry = { l with current := some { x with phase := .sending }, gapRunning := false, sense := .busy false } := by
  simp [Line.gapExpiry, hc, hg, hs, hx, LineSense.isQuiet]

/-- R65: a transmission that is no accepted frame, or is not to be judged, leaves the line quiet and no more. -/
theorem Part.endOfTransmission_of_unjudged {p : Part} {bytes : List Byte} (hd : p.line.driverEnabled = false)
    (h : readFrame bytes = none ∨ p.line.sense = .busy false) :
    p.endOfTransmission bytes = p.onLine Line.becomeQuiet := by
  rcases h with h | h
  · simp [Part.endOfTransmission, hd, Part.judgeFrame, h]
  · simp [Part.endOfTransmission, hd, h, LineSense.judgedAtEnd]

/-- Settles O24: each event by the branch that the line's sense chooses. -/
theorem lineSenseFollows : Obligations.LineSenseFollows := by
  refine ⟨fun s x hrun hg hs hc hx => ?_, fun s hs => ?_, fun s b hs => ?_, fun s bytes hd h => ?_⟩
  · exact ⟨_, next_whenRunning hrun (Part.onLine_of (Line.gapExpiry_of_deferring hg hs hc hx)), rfl, rfl⟩
  · exact next_onPart (Part.onLine_of (Line.becomeBusy_of_quiet _ hs))
  · exact next_onPart (Part.onLine_of (Line.becomeBusy_of_busy _ hs))
  · exact next_onPart (Part.endOfTransmission_of_unjudged hd h)

/-! ### Backoff (R75) -/

/-- R74: a clash before the eighth attempt. -/
theorem Part.clash_of_early {p : Part} {x : Sending} (hc : p.line.current = some x) (hx : x.phase = .sending)
    (hn : x.attempt ≤ 7) :
    p.clash = { p with line := { p.line with
      current := some { x with phase := .backoff (backoffSlots p.settings.station x.attempt) } } } := by
  have hlt : x.attempt < Config.sendAttempts := Nat.lt_succ_of_le hn
  simp [Part.clash, hc, hx, hlt, Part.onLine]

theorem Line.backoffExpiry_of_backoff {l : Line} {x : Sending} {k : Nat} (hc : l.current = some x)
    (hx : x.phase = .backoff k) :
    l.backoffExpiry = { l with
      current := some { x with attempt := x.attempt + 1, phase := .deferring }
      gapRunning := decide (l.sense = .quiet) } := by
  simp [Line.backoffExpiry, hc, hx, Line.defer, LineSense.isQuiet_eq_decide]

theorem backoffSlots_add_31 (station n : Nat) : backoffSlots (station + 31) n = backoffSlots station n := by
  rw [backoffSlots, backoffSlots, Nat.add_mul, Nat.add_mul_mod_self_left]

/-- Settles O20: a frame in BACKOFF is one that the line's events leave as it is. -/
theorem backoffFollowsClash : Obligations.BackoffFollowsClash := by
  refine ⟨fun s x hrun hc hx hn => ?_, fun station n => ⟨Nat.le_add_left 1 _, ?_, rfl, backoffSlots_add_31 station n⟩,
    fun s t bytes x k hc hx => ⟨?_, fun ht => ?_, fun ht => ?_⟩, fun s x k hrun hc hx => ?_⟩
  · exact next_whenRunning hrun (Part.clash_of_early hc hx hn)
  · exact Nat.mod_lt (station * n) (by decide)
  · simp [Line.driverEnabled_of_current hc, hx]
  · cases ht
    exact (s.part.line.becomeBusy_serves _).current x hc
  · cases ht
    exact (s.part.endOfTransmission_serves bytes).current x hc
  · exact next_whenRunning hrun (Part.onLine_of (Line.backoffExpiry_of_backoff hc hx))

/-! ### Outcomes (R49, R74, R168) -/

/-- R71: an IDLE transmitter with nothing queued stays IDLE. -/
theorem Part.takeFrame_of_empty {p : Part} (h : p.line.queue = []) : p.takeFrame = p := by
  simp [Part.takeFrame, h, chosenFrame]

/-- R74: the end of a send whose owner leaves the queue empty. -/
theorem Part.endSend_of_empty {p : Part} {x : Sending} {sent : Bool} (hc : p.line.current = some x)
    (hq : (p.ownerOutcome x.frame sent).line.queue = []) :
    p.endSend sent = (p.ownerOutcome x.frame sent).onLine fun l => { l with current := none } := by
  simp [Part.endSend, hc, Part.takeFrame_of_empty, hq]

/-- R168: LINE FAIL of a console SALE is the result, and nothing is handed on. -/
theorem Part.ownerOutcome_of_saleFailed {p : Part} {f : QueuedFrame} {c : SaleContents} (hb : f.body = .sale c)
    (hport : p.console.port = .busy f.age) : p.ownerOutcome f false = p.finish .lineFail := by
  simp [Part.ownerOutcome, hb, Part.entryOutcome, hport]

/-- R74: the eighth clash ends the send. -/
theorem Part.clash_of_eighth {p : Part} {x : Sending} (hc : p.line.current = some x) (hx : x.phase = .sending)
    (hn : x.attempt = 8) : p.clash = p.endSend false := by
  simp [Part.clash, hc, hx, hn, Config.sendAttempts]

theorem Part.sendComplete_of_sending {p : Part} {x : Sending} (hc : p.line.current = some x)
    (hx : x.phase = .sending) : p.sendComplete = p.endSend true := by
  simp [Part.sendComplete, Line.driverEnabled_of_current hc, hx]

/-- Settles O21: the owner takes the outcome, and no frame waits to be taken. -/
theorem outcomesReachOwners : Obligations.OutcomesReachOwners := by
  refine ⟨fun s x c hrun hc hx hn hb hport hq => ?_, fun s x i hrun hc hx hb hq => ?_⟩ <;>
    refine next_whenRunning hrun ?_
  · have howner := Part.ownerOutcome_of_saleFailed hb hport
    rw [Part.clash_of_eighth hc hx hn, Part.endSend_of_empty hc (by rw [howner]; exact hq), howner]
    rfl
  · have howner : s.part.ownerOutcome x.frame true = s.part.recallSent x.frame.age := by
      simp [Part.ownerOutcome, hb]
    rw [Part.sendComplete_of_sending hc hx, Part.endSend_of_empty hc (by rw [howner]; exact hq), howner]
    rfl

end Sys2Proof.Machine
end

section
/-! Offers to the Transmit Queue and the frame taken of it (R49, R57, R69 to R71). -/

namespace Sys2Proof.Machine

/-! ### The queue's choices (R70, R71) -/

theorem QueuedFrame.hasClass_iff (c : FrameClass) (f : QueuedFrame) : f.hasClass c = true ↔ f.body.frameClass = c := by
  simp [QueuedFrame.hasClass]

section
variable {older younger : List QueuedFrame} {f : QueuedFrame}

/-- A frame removed by its age takes no other with it (R69). -/
theorem removeFrame_append (h : ((older ++ f :: younger).map QueuedFrame.age).Nodup) :
    removeFrame f.age (older ++ f :: younger) = older ++ younger := by
  have hne : ∀ g ∈ older ++ younger, g.age ≠ f.age := by
    rw [List.map_append, List.map_cons, List.nodup_middle, ← List.map_append] at h
    exact fun g hg he => (List.nodup_cons.mp h).1 (he ▸ List.mem_map_of_mem hg)
  have hkeep (gs : List QueuedFrame) (hgs : ∀ g ∈ gs, g.age ≠ f.age) : gs.filter (fun g => g.age != f.age) = gs :=
    List.filter_eq_self.mpr fun g hg => bne_iff_ne.mpr (hgs g hg)
  rw [removeFrame, List.filter_append, List.filter_cons_of_neg (by simp),
    hkeep older fun g hg => hne g (List.mem_append_left _ hg),
    hkeep younger fun g hg => hne g (List.mem_append_right _ hg)]

theorem youngestLow_eq_none_iff (q : List QueuedFrame) :
    youngestLow q = none ↔ ∀ g ∈ q, g.body.frameClass ≠ .low := by
  simp [youngestLow, QueuedFrame.hasClass_iff]

theorem youngestLow_append (hf : f.body.frameClass = .low) (hy : ∀ g ∈ younger, g.body.frameClass ≠ .low) :
    youngestLow (older ++ f :: younger) = some f := by
  have hnone : younger.reverse.find? (QueuedFrame.hasClass .low) = none := (youngestLow_eq_none_iff younger).mpr hy
  have hlow : f.hasClass .low = true := (f.hasClass_iff .low).mpr hf
  simp [youngestLow, hnone, hlow]

/-- The first frame of a class, when no older one has it. -/
theorem find?_hasClass_append {c : FrameClass} (hf : f.body.frameClass = c)
    (ho : ∀ g ∈ older, g.body.frameClass ≠ c) :
    (older ++ f :: younger).find? (QueuedFrame.hasClass c) = some f := by
  have hnone : older.find? (QueuedFrame.hasClass c) = none :=
    List.find?_eq_none.mpr fun g hg => by simpa [QueuedFrame.hasClass_iff] using ho g hg
  have hc : f.hasClass c = true := (f.hasClass_iff c).mpr hf
  simp [hnone, hc]

theorem find?_hasClass_eq_none {q : List QueuedFrame} {c : FrameClass} (h : ∀ g ∈ q, g.body.frameClass ≠ c) :
    q.find? (QueuedFrame.hasClass c) = none :=
  List.find?_eq_none.mpr fun g hg => by simpa [QueuedFrame.hasClass_iff] using h g hg

/-- R71: the oldest frame of the highest class present is the one chosen. -/
theorem chosenFrame_append (ho : ∀ g ∈ older, g.body.frameClass.rank < f.body.frameClass.rank)
    (hy : ∀ g ∈ younger, g.body.frameClass.rank ≤ f.body.frameClass.rank) :
    chosenFrame (older ++ f :: younger) = some f := by
  have habove (c : FrameClass) (hc : f.body.frameClass.rank < c.rank) :
      (older ++ f :: younger).find? (QueuedFrame.hasClass c) = none := by
    refine find?_hasClass_eq_none fun g hg he => absurd hc (Nat.not_lt.mpr (he ▸ ?_))
    rcases List.mem_append.mp hg with hg | hg
    · exact (ho g hg).le
    · rcases List.mem_cons.mp hg with rfl | hg
      · exact le_rfl
      · exact hy g hg
  have hfirst {c : FrameClass} (hc : f.body.frameClass = c) :
      (older ++ f :: younger).find? (QueuedFrame.hasClass c) = some f :=
    find?_hasClass_append hc fun g hg he => absurd (ho g hg) (by rw [he, hc]; exact lt_irrefl _)
  unfold chosenFrame
  cases hc : f.body.frameClass with
  | urgent => rw [hfirst hc]
  | normal => rw [habove .urgent (by rw [hc]; decide), hfirst hc]
  | low =>
    have hnil : older = [] := List.eq_nil_iff_forall_not_mem.mpr fun g hg => by
      simpa [hc, FrameClass.rank] using ho g hg
    rw [habove .urgent (by rw [hc]; decide), habove .normal (by rw [hc]; decide), hnil]
    rfl

end

/-! ### Offers (R70) -/

section
variable {p : Part} {b : TxBody}

theorem Part.joinQueue_of_sending (h : p.line.current.isSome = true) :
    p.joinQueue b = { p with line := { p.line with
      queue := p.line.queue ++ [⟨p.line.nextAge, b⟩], nextAge := p.line.nextAge + 1 } } :=
  Part.takeFrame_of_sending _ h

/-- R70: a full queue refuses what is not URGENT, and everything when no LOW frame waits. -/
theorem Part.offer_of_full (hq : 16 ≤ p.line.queue.length)
    (h : b.frameClass ≠ .urgent ∨ ∀ f ∈ p.line.queue, f.body.frameClass ≠ .low) : p.offer b = (p, false) := by
  have hfull : ¬ p.line.queue.length < Config.queuePlaces := Nat.not_lt.mpr hq
  rcases h with h | h
  · simp [Part.offer, hfull, h]
  · simp [Part.offer, hfull, (youngestLow_eq_none_iff _).mpr h]

/-- R70: an URGENT offer to a full queue displaces the youngest LOW frame and joins, behind a frame being sent. -/
theorem Part.offer_of_displacing {older younger : List QueuedFrame} {f : QueuedFrame} (hlaw : p.line.QueueLaw)
    (hfull : 16 ≤ p.line.queue.length) (hb : b.frameClass = .urgent) (hq : p.line.queue = older ++ f :: younger)
    (hf : f.body.frameClass = .low) (hy : ∀ g ∈ younger, g.body.frameClass ≠ .low) :
    p.offer b = ({ p.displaced f with line := { p.line with
      queue := older ++ younger ++ [⟨p.line.nextAge, b⟩], nextAge := p.line.nextAge + 1 } }, true) := by
  obtain ⟨⟨-, hage, -⟩, hidle⟩ := p.line.queueLaw_iff.mp hlaw
  have hsending : p.line.current.isSome = true := by
    refine Option.isSome_iff_ne_none.mpr fun hn => ?_
    simp [hidle hn] at hq
  have hremove : removeFrame f.age p.line.queue = older ++ younger := by
    rw [hq] at hage ⊢
    exact removeFrame_append (hage.imp ne_of_lt)
  have hlow : youngestLow p.line.queue = some f := hq ▸ youngestLow_append hf hy
  have hplaces : ¬ p.line.queue.length < Config.queuePlaces := Nat.not_lt.mpr hfull
  have hoffer : p.offer b = (((p.displaced f).withdraw f.age).joinQueue b, true) := by
    rw [← Part.displaced_withdraw]
    simp [Part.offer, hplaces, hb, hlow, Part.withdraw]
  rw [hoffer, Part.joinQueue_of_sending (by simpa using hsending)]
  simp only [Part.withdraw_line, Part.displaced_line, hremove]
  rfl

/-- R76: a displaced CLOCK is dropped. -/
theorem Part.displaced_of_clock {f : QueuedFrame} (h : f.body = .clock) : p.displaced f = p := by
  simp [Part.displaced, h]

/-- R49: a displaced RECALL frees its slot and puts its record at the head of the list. -/
theorem Part.displaced_of_recall {f : QueuedFrame} {i : Nat} (h : f.body = .recallFor i)
    (hsl : ∃ sl ∈ p.recalls.slots, sl.phase = .awaitingOutcome f.age) :
    p.displaced f = { p with
      recalls := { p.recalls with
        slots := p.recalls.slots.filter fun sl => sl.phase != .awaitingOutcome f.age, list := i :: p.recalls.list }
      records := p.records.modify i fun r => { r with recallState := .listed } } := by
  have hany : (p.recalls.slots.any fun sl => sl.phase == .awaitingOutcome f.age) = true := by simpa using hsl
  simp only [Part.displaced, h, hany, if_true]
  rfl

/-! ### The frame taken and completed (R57, R71) -/

theorem Part.takeFrame_of_chosen {older younger : List QueuedFrame} {f : QueuedFrame} (hc : p.line.current = none)
    (hage : (p.line.queue.map QueuedFrame.age).Nodup) (hq : p.line.queue = older ++ f :: younger)
    (hf : chosenFrame p.line.queue = some f) :
    p.takeFrame = { p with line := { p.line with
      queue := older ++ younger
      gapRunning := decide (p.line.sense = .quiet)
      current := some ⟨f, writeFrame p.settings.station (p.completeBody f.body), 1, .deferring⟩ } } := by
  have hremove : removeFrame f.age p.line.queue = older ++ younger := by
    rw [hq] at hage ⊢
    exact removeFrame_append hage
  simp [Part.takeFrame, hc, hf, hremove, LineSense.isQuiet_eq_decide]

/-- R57: a REPLY built from a record carries its displayed fields, doubt aside. -/
theorem replyContents_displayed (r : Record) :
    (replyContents r).displayed = { r.shown with doubtful := false } := by
  have hstate := (InstrState.ofCode_eq_some_iff _ r.shown.state).mpr rfl
  have htick := (Tick.ofCode_eq_some_iff _ r.shown.tick).mpr rfl
  simp [ReplyContents.displayed, replyContents, hstate, htick]

/-- R57: the contents of a REPLY completed from a record that was heard. -/
theorem Part.completeBody_reply {i : Nat} {r : Record} {d : Day} {rv : Revision} (hr : p.records[i]? = some r)
    (hd : r.recordDay = some d) (hrv : r.revision = some rv) :
    ∃ c, p.completeBody (.reply i) = .reply c ∧ c.symbol = r.symbol ∧ c.day = d ∧ c.revision = rv.toNat ∧
      c.stateCode = r.shown.state.code ∧ c.tickCode = r.shown.tick.code ∧
      c.displayed = { r.shown with doubtful := false } :=
  ⟨replyContents r, by simp [Part.completeBody, hr], rfl, by simp [replyContents, hd], by simp [replyContents, hrv], rfl,
    rfl, replyContents_displayed r⟩

end

/-- Settles O22: the offer by the room in the queue and the class offered, and the taking by the class chosen. -/
theorem offersJoinOrDisplace : Obligations.OffersJoinOrDisplace := by
  refine ⟨fun p b hq hc => p.offer_of_sending b hq hc, fun p b hq h => Part.offer_of_full hq h,
    fun p b older younger f hlaw hfull hb hq hf hy => ?_,
    fun p older younger f hc hage hq ho hy =>
      Part.takeFrame_of_chosen hc hage hq (hq ▸ chosenFrame_append ho hy), fun p => ?_⟩
  · have hoffer := Part.offer_of_displacing hlaw hfull hb hq hf hy
    refine ⟨fun hclock => ?_, fun i hi hsl => ?_⟩
    · rw [hoffer, Part.displaced_of_clock hclock]
    · rw [hoffer, Part.displaced_of_recall hi hsl]
  · refine ⟨fun i r d hr hd => ?_, fun w n ht => ?_, fun g a => rfl, fun c => rfl,
      fun i r d rv hr hd hrv => Part.completeBody_reply hr hd hrv⟩
    · simp [Part.completeBody, Part.symbolOf, hr, hd]
    · simp [Part.completeBody, ht]

end Sys2Proof.Machine
end

section
/-! A SALE heard in sequence (R10, R11, R13 to R15, R64, R66, R67). -/

namespace Sys2Proof.Machine

/-! ### The Board Writer's choice writes no panel (R97) -/

section
variable (b : Board)

@[simp] theorem Board.markAll_panels (ks : List Nat) : (b.markAll ks).panels = b.panels := by
  obtain ⟨zs, d, h⟩ := b.markAll_spec ks
  rw [h]

@[simp] theorem Board.takeDirty_panels : b.takeDirty.panels = b.panels := by
  unfold Board.takeDirty
  split <;> rfl

@[simp] theorem Board.takeAtCursor_panels (c : Nat) : (b.takeAtCursor c).panels = b.panels := by
  unfold Board.takeAtCursor
  split
  · rfl
  · exact Board.takeDirty_panels _

@[simp] theorem Board.chooseWork_panels : b.chooseWork.panels = b.panels := by
  unfold Board.chooseWork
  split
  · exact b.takeDirty_panels
  · split
    · exact Board.takeDirty_panels _
    · split
      · exact Board.takeDirty_panels _
      · exact b.takeAtCursor_panels _

@[simp] theorem Board.completeBlank_panels : b.completeBlank.panels = b.panels := by
  unfold Board.completeBlank
  simp only
  split
  · rfl
  · exact Board.markAll_panels _ _

@[simp] theorem Board.choose_panels : b.choose.panels = b.panels := by
  unfold Board.choose
  split
  · split <;> simp
  · exact b.chooseWork_panels

end

/-! ### What the displays and the Recall Unit leave of an event -/

/-- What the displays and the Recall Unit leave as they make their choices: the sense and the listen-only of the line,
the clock, the Console Port but its flags, the panels, and every record's quotation (R7). -/
structure Part.Follows (p q : Part) : Prop where
  sense : q.line.sense = p.line.sense
  listenOnly : q.line.listenOnly = p.line.listenOnly
  clock : q.clock = p.clock
  console : ∃ flags, q.console = { p.console with flags := flags }
  panels : q.board.panels = p.board.panels
  quotations : q.quotations = p.quotations

section
variable {p q r : Part}

theorem Part.Follows.trans (h : p.Follows q) (h' : q.Follows r) : p.Follows r where
  sense := h'.sense.trans h.sense
  listenOnly := h'.listenOnly.trans h.listenOnly
  clock := h'.clock.trans h.clock
  console := by
    obtain ⟨flags, hq⟩ := h.console
    obtain ⟨flags', hr⟩ := h'.console
    exact ⟨flags', by rw [hr, hq]⟩
  panels := h'.panels.trans h.panels
  quotations := h'.quotations.trans h.quotations

variable (p)

theorem Part.boardKick_follows : p.Follows p.boardKick := by
  obtain ⟨f, b, h, hb⟩ := p.boardKick_spec
  have hpanels : b.panels = p.board.panels := by
    rcases hb with rfl | ⟨-, rfl⟩
    · rfl
    · exact p.board.choose_panels
  rw [h]
  exact ⟨rfl, rfl, rfl, ⟨_, rfl⟩, hpanels, rfl⟩

theorem Part.tapeCandidate_follows (c : SaleContents) : p.Follows (p.tapeCandidate c) := by
  unfold Part.tapeCandidate
  split
  · obtain ⟨f, rib, h, -⟩ := p.onTape_spec fun env => Tape.candidate env c
    rw [h]
    exact ⟨rfl, rfl, rfl, ⟨_, rfl⟩, rfl, rfl⟩
  · exact ⟨rfl, rfl, rfl, ⟨_, rfl⟩, rfl, rfl⟩

theorem Part.settle_follows : p.Follows p.settle := by
  obtain ⟨f, b, ts, u, rs, l, h, hb, hr, hs, hl⟩ := p.settle_spec
  have hpanels : b.panels = p.board.panels := by
    rcases hb with rfl | ⟨-, rfl⟩
    · rfl
    · exact p.board.choose_panels
  rw [h]
  exact ⟨hs, hl, rfl, ⟨_, rfl⟩, hpanels, hr⟩

/-- The marks of dependents write no panel (R24). -/
theorem Part.markDependents_follows (old : List Record) : p.Follows (p.markDependents old) := by
  obtain ⟨zs, d, h⟩ := p.markDependents_spec old
  rw [h]
  exact ⟨rfl, rfl, rfl, ⟨_, rfl⟩, rfl, rfl⟩

end

/-! ### A report in sequence (R10, R11) -/

section
variable {p : Part} {c : SaleContents} {i : Nat} {r : Record} {rv : Revision}

/-- Table 1-4: the revision after the record's is applied with doubt left as it was. -/
theorem reportGate_of_next (hh : r.heard = true) (hrv : r.revision = some rv) :
    reportGate r (rv + 1) = .applied false := by
  obtain ⟨-, happly, -⟩ := reportGate_of_heard (rv + 1) hh hrv
  refine happly ?_
  rw [revisionDistance, BitVec.add_comm, BitVec.add_sub_cancel]
  rfl

/-- R66, R10: a SALE of the station's day and in sequence is applied, its dependents marked. -/
theorem Part.judge_sale_of_next (hw : c.wellFormed = true) (hl : p.lookup c.symbol = some i)
    (hr : p.records[i]? = some r) (hh : r.heard = true) (hrv : r.revision = some rv)
    (hnext : BitVec.ofNat 12 c.revision = rv + 1) (hd : p.day = some c.day) :
    p.judge (.sale c) = (p.applied (.sale c) i r).markDependents p.records := by
  have hreport (x : ReplyContents) : Contents.sale c ≠ .reply x := nofun
  have hgate : (Contents.sale c).gate r = .applied false := by
    rw [Contents.gate_report hreport]
    exact (congrArg (reportGate r) hnext).trans (reportGate_of_next hh hrv)
  rw [Part.judge_of_wellFormed (c := .sale c) hw hl hr hd, Part.applyContents_report hreport hgate]
  exact congrArg (Part.markDependents p.records) (if_pos rfl)

/-- R11, R13 to R15: the quotations after a SALE applied to a HEARD record. -/
theorem Part.applied_sale_quotations (hr : p.records[i]? = some r) (hh : r.heard = true) :
    (p.applied (.sale c) i r).quotations = p.quotations.set i
      { r with recallState := .none, revision := some (BitVec.ofNat 12 c.revision), recordDay := some c.day,
               shown := r.shown.sale c.price c.volume } := by
  rw [Part.quotations, Part.applied_records _ hr, List.map_set, hh]
  rfl

theorem Part.applied_panels (c : Contents) (i : Nat) (r : Record) (p : Part) :
    (p.applied c i r).board.panels = p.board.panels := by
  unfold Part.applied
  simp only
  split <;> rfl

/-- R67: the station's own number heard makes it listen-only and raises a flag. -/
theorem Part.checkOrigin_spec (origin : Nat) (p : Part) :
    ∃ flags, p.checkOrigin origin = { p with
      line := { p.line with listenOnly := p.line.listenOnly || origin == p.settings.station }
      console := { p.console with flags := flags } } := by
  unfold Part.checkOrigin
  split
  · rename_i h
    exact ⟨raiseFlag .duplicateStation p.console.flags, by simp [Part.onLine, Part.raise, h]⟩
  · rename_i h
    exact ⟨p.console.flags, by rw [beq_eq_false_iff_ne.mpr h, Bool.or_false]⟩

/-- R64 to R67: a frame accepted at the end of another station's transmission finds the line quiet, and the origin
checked. -/
theorem Part.endOfTransmission_of_frame {bytes : List Byte} {origin : Nat} {body : FrameBody} (hrun : p.running = true)
    (hd : p.line.driverEnabled = false) (hs : p.line.sense ≠ .busy false) (h : readFrame bytes = some (origin, body)) :
    ∃ flags, p.endOfTransmission bytes = (Part.handFrame body { p with
      line := { p.line.becomeQuiet with listenOnly := p.line.listenOnly || origin == p.settings.station }
      console := { p.console with flags := flags } }).settle := by
  have hjudged : p.line.sense.judgedAtEnd = true := by
    cases h : p.line.sense with
    | quiet => rfl
    | busy judged => simpa [h, LineSense.judgedAtEnd] using hs
  obtain ⟨flags, horigin⟩ := (p.onLine Line.becomeQuiet).checkOrigin_spec origin
  refine ⟨flags, ?_⟩
  simp only [Part.endOfTransmission, hd, Bool.false_eq_true, if_false, hrun, hjudged, and_self, if_true,
    Part.judgeFrame, h, horigin]
  rfl

/-- R10, R66: what a SALE in sequence leaves of its event once every block has acted on it. -/
theorem Part.saleArrives_of_next (hw : c.wellFormed = true) (hl : p.lookup c.symbol = some i)
    (hr : p.records[i]? = some r) (hh : r.heard = true) (hrv : r.revision = some rv)
    (hnext : BitVec.ofNat 12 c.revision = rv + 1) (hd : p.day = some c.day) :
    (p.applied (.sale c) i r).Follows (p.saleArrives c).settle := by
  have hmarks := (p.applied (.sale c) i r).markDependents_follows p.records
  rw [← Part.judge_sale_of_next hw hl hr hh hrv hnext hd] at hmarks
  exact ((hmarks.trans (Part.boardKick_follows _)).trans (Part.tapeCandidate_follows _ c)).trans
    (Part.settle_follows _)

end

/-- Settles O25: the sale is applied, and what comes after it in the event leaves what is stated. -/
theorem heardSaleApplied : Obligations.HeardSaleApplied := by
  intro s bytes origin c i r rv hrun hd hs hframe hw hl hr hh hrv hnext hday
  obtain ⟨flags, hend⟩ := Part.endOfTransmission_of_frame hrun hd hs hframe
  refine ⟨{ s with part := s.part.endOfTransmission bytes }, rfl, ?_⟩
  simp only [hend, Part.handFrame]
  set p : Part := { s.part with
    line := { s.part.line.becomeQuiet with listenOnly := s.part.line.listenOnly || origin == s.part.settings.station }
    console := { s.part.console with flags := flags } }
  obtain ⟨hsense, hlisten, hclock, ⟨flags', hconsole⟩, hpanels, hquot⟩ :=
    Part.saleArrives_of_next (p := p) hw hl hr hh hrv hnext hday
  obtain ⟨b, happlied⟩ := p.applied_spec (.sale c) i r
  rw [Part.applied_panels] at hpanels
  rw [Part.applied_sale_quotations (p := p) hr hh, hnext] at hquot
  rw [happlied] at hsense hlisten hclock hconsole
  refine ⟨hsense, hclock, hlisten, ?_, ?_, ?_, ?_, hpanels, hquot⟩ <;> rw [hconsole]

end Sys2Proof.Machine
end

section
/-! Frames written and read back (R63, R65, R179, Tables 10-1 and 10-2). -/

namespace Sys2Proof.Machine

/-! ### Bytes and fields (R179) -/

section
variable {bs rest : List Byte} {start : Nat}

/-- A field that begins where a written number stands. -/
theorem field_of_drop {k n : Nat} (h : bs.drop start = toBytes k n ++ rest) (hn : n < 256 ^ k) :
    field bs start k = n := by
  rw [field, h, List.take_append_of_le_length (toBytes_length k n).ge,
    List.take_of_length_le (toBytes_length k n).le, ofBytes_toBytes k n hn]

theorem byteAt_of_drop {b : Byte} (h : bs.drop start = b :: rest) : byteAt bs start = b := by
  have hget : bs[start]? = some b := by
    rw [← List.head?_drop, h, List.head?_cons]
  simp [byteAt, List.getD, hget]

@[simp] theorem Symbol.ofList_bytes (s : Symbol) (rest : List Byte) : Symbol.ofList (s.bytes ++ rest) = s := rfl

/-! ### Optional fields and presence bits (R8, R179) -/

@[simp] theorem writeSide_length (x : Side) : (writeSide x).length = 5 := by
  simp [writeSide]

theorem writeOption_length {α : Type} {f : α → List Byte} {n : Nat} (hf : ∀ a, (f a).length = n) (o : Option α) :
    (writeOption f o).length = sizeIf o.isSome n := by
  cases o <;> simp [writeOption, sizeIf, hf]

/-- A price that its presence bit gives reads back, and one that is absent takes no bytes. -/
theorem priceIf_of_drop {o : Option Nat} (h : bs.drop start = writeOption (toBytes 3) o ++ rest)
    (ho : ∀ x ∈ o, x < 16777216) : priceIf o.isSome bs start = o := by
  cases o with
  | none => rfl
  | some x => exact congrArg some (field_of_drop h (ho x rfl))

theorem readSide_of_drop {x : Side} (h : bs.drop start = writeSide x ++ rest) (hp : x.price < 16777216)
    (hs : x.size < 65536) : readSide bs start = x := by
  have hprice : bs.drop start = toBytes 3 x.price ++ (toBytes 2 x.size ++ rest) := by
    rw [h, writeSide, List.append_assoc]
  have hsize : bs.drop (start + 3) = toBytes 2 x.size ++ rest := by
    rw [← List.drop_drop, hprice]
    exact List.drop_left' (toBytes_length 3 x.price)
  rw [readSide, field_of_drop hprice hp, field_of_drop hsize hs]

theorem sideIf_of_drop {o : Option Side} (h : bs.drop start = writeOption writeSide o ++ rest)
    (ho : ∀ x ∈ o, x.price < 16777216 ∧ x.size < 65536) : sideIf o.isSome bs start = o := by
  cases o with
  | none => rfl
  | some x => exact congrArg some (readSide_of_drop h (ho x rfl).1 (ho x rfl).2)

/-- A presence byte gives back its bits. -/
theorem presenceByte_getLsbD (bits : List Bool) {i : Nat} (hi : i < 8) :
    (presenceByte bits).getLsbD i = bits.getD i false := by
  have hbits (i : Nat) : (bits.foldr (fun (b : Bool) n => (if b then 1 else 0) + 2 * n) 0).testBit i = bits.getD i false := by
    induction bits generalizing i with
    | nil => simp
    | cons b bits ih =>
      rw [List.foldr_cons]
      cases i with
      | zero => cases b <;> simp [Nat.testBit_zero]
      | succ i =>
        rw [Nat.testBit_succ, List.getD_cons_succ, ← ih]
        congr 1
        cases b
        · simp
        · simp only [if_true]
          omega
  rw [presenceByte, BitVec.getLsbD_ofNat, hbits]
  simp [hi]

end

/-! ### Whole frames (R63, R65) -/

theorem field_of_drop_cons {bs rest : List Byte} {start : Nat} {b : Byte} (h : bs.drop start = b :: rest) :
    field bs start 1 = b.toNat := by
  simp [field, h, ofBytes]

/-- R63: the check makes the sum of a frame's bytes and check 0. -/
theorem byteSum_add_check (covered : List Byte) :
    byteSum covered + BitVec.ofNat 16 (-(byteSum covered)).toNat = 0 := by
  rw [BitVec.ofNat_toNat, BitVec.setWidth_eq, BitVec.add_right_neg]
  rfl

/-- R65: a frame from a station, with a body that its kind allows, is accepted as it was sent. -/
theorem readFrame_writeFrame {origin : Nat} {body : FrameBody} {kind : Byte} {b : List Byte} (h1 : 1 ≤ origin)
    (h62 : origin ≤ 62) (hw : writeBody body = (kind, b)) (hlen : b.length < 256)
    (hread : readBody kind.toNat b = some body) : readFrame (writeFrame origin body) = some (origin, body) := by
  set covered : List Byte := [kind, BitVec.ofNat 8 origin, BitVec.ofNat 8 b.length] ++ b
  set check : List Byte := toBytes 2 (-(byteSum covered)).toNat
  have hframe : writeFrame origin body = covered ++ check := by
    simp only [writeFrame, hw]
    rfl
  have hcov : covered.length = b.length + 3 := by simp [covered]
  have hkind : field (covered ++ check) 0 1 = kind.toNat := field_of_drop_cons rfl
  have horigin : field (covered ++ check) 1 1 = origin := by
    rw [field_of_drop_cons (b := BitVec.ofNat 8 origin) rfl, BitVec.toNat_ofNat]
    omega
  have hlength : field (covered ++ check) 2 1 = b.length := by
    rw [field_of_drop_cons (b := BitVec.ofNat 8 b.length) rfl, BitVec.toNat_ofNat]
    exact Nat.mod_eq_of_lt hlen
  have hcheck : field (covered ++ check) (b.length + 3) 2 = (-(byteSum covered)).toNat := by
    refine field_of_drop (rest := []) ?_ (BitVec.isLt _)
    rw [← hcov, List.drop_left, List.append_nil]
  have htake : (covered ++ check).take (b.length + 3) = covered := by rw [← hcov, List.take_left]
  have hbody : ((covered ++ check).drop 3).take b.length = b := List.take_left
  have hstation : isStation origin = true := (isStation_iff origin).mpr ⟨h1, h62⟩
  have hall : (covered ++ check).length = b.length + 5 := by simp [hcov, check]
  simp only [hframe, readFrame, hkind, horigin, hlength, hcheck, htake, hbody, hstation, hall, byteSum_add_check, hread,
    and_self, if_true, Option.map_some]

/-! ### Bodies of a fixed length (Table 10-2) -/

/-- The bytes of a body. -/
def FrameBody.bytes (body : FrameBody) : List Byte :=
  (writeBody body).2

theorem readBody_sale {c : SaleContents} (hrev : c.revision < 65536) (htime : c.tradeTime < 16777216)
    (hprice : c.price < 16777216) (hvol : c.volume < 16777216) :
    readBody 1 (FrameBody.sale c).bytes = some (.sale c) := by
  have hn : (FrameBody.sale c).bytes.length = 17 := rfl
  have hsymbol : Symbol.ofList (FrameBody.sale c).bytes = c.symbol := rfl
  have hday : byteAt (FrameBody.sale c).bytes 5 = c.day := rfl
  have hrevAt : field (FrameBody.sale c).bytes 6 2 = c.revision := field_of_drop (by rfl) hrev
  have htimeAt : field (FrameBody.sale c).bytes 8 3 = c.tradeTime := field_of_drop (by rfl) htime
  have hpriceAt : field (FrameBody.sale c).bytes 11 3 = c.price := field_of_drop (by rfl) hprice
  have hvolAt : field (FrameBody.sale c).bytes 14 3 = c.volume := field_of_drop (rest := []) (by rfl) hvol
  simp [readBody, readSale, hn, hsymbol, hday, hrevAt, htimeAt, hpriceAt, hvolAt]

theorem readBody_state {c : StateContents} (hrev : c.revision < 65536) (hcode : c.code < 256) :
    readBody 3 (FrameBody.state c).bytes = some (.state c) := by
  have hn : (FrameBody.state c).bytes.length = 9 := rfl
  have hsymbol : Symbol.ofList (FrameBody.state c).bytes = c.symbol := rfl
  have hday : byteAt (FrameBody.state c).bytes 5 = c.day := rfl
  have hrevAt : field (FrameBody.state c).bytes 6 2 = c.revision := field_of_drop (by rfl) hrev
  have hcodeAt : field (FrameBody.state c).bytes 8 1 = c.code := field_of_drop (rest := []) (by rfl) hcode
  simp [readBody, readStateFrame, hn, hsymbol, hday, hrevAt, hcodeAt]

theorem readBody_recallFor (s : Symbol) (d : Day) :
    readBody 4 (FrameBody.recallFor s d).bytes = some (.recallFor s d) := rfl

theorem readBody_session (d : Day) {ph : Nat} (hph : ph < 256) :
    readBody 7 (FrameBody.session d ph).bytes = some (.session d ph) := by
  have hn : (FrameBody.session d ph).bytes.length = 2 := rfl
  have hdayAt : byteAt (FrameBody.session d ph).bytes 0 = d := rfl
  have hphaseAt : field (FrameBody.session d ph).bytes 1 1 = ph := field_of_drop (rest := []) (by rfl) hph
  simp [readBody, hn, hdayAt, hphaseAt]

theorem readBody_clock {w h m sec : Nat} (hw : w < 256) (hh : h < 256) (hm : m < 256) (hs : sec < 256) :
    readBody 8 (FrameBody.clock w h m sec).bytes = some (.clock w h m sec) := by
  have hn : (FrameBody.clock w h m sec).bytes.length = 4 := rfl
  have hwAt : field (FrameBody.clock w h m sec).bytes 0 1 = w := field_of_drop (by rfl) hw
  have hhAt : field (FrameBody.clock w h m sec).bytes 1 1 = h := field_of_drop (by rfl) hh
  have hmAt : field (FrameBody.clock w h m sec).bytes 2 1 = m := field_of_drop (by rfl) hm
  have hsAt : field (FrameBody.clock w h m sec).bytes 3 1 = sec := field_of_drop (rest := []) (by rfl) hs
  simp [readBody, hn, hwAt, hhAt, hmAt, hsAt]

theorem readBody_hold {g a : Nat} (hg : g < 256) (ha : a < 256) :
    readBody 9 (FrameBody.hold g a).bytes = some (.hold g a) := by
  have hn : (FrameBody.hold g a).bytes.length = 2 := rfl
  have hgroupAt : field (FrameBody.hold g a).bytes 0 1 = g := field_of_drop (by rfl) hg
  have hactionAt : field (FrameBody.hold g a).bytes 1 1 = a := field_of_drop (rest := []) (by rfl) ha
  simp [readBody, hn, hgroupAt, hactionAt]

/-! ### Bodies whose length their own bytes give (Table 10-2) -/

theorem notice_bytes_length (u : Nat) (text : List Byte) : (FrameBody.notice u text).bytes.length = text.length + 1 :=
  rfl

theorem readBody_notice {u : Nat} {text : List Byte} (hu : u < 256) (h1 : 1 ≤ text.length) (h64 : text.length ≤ 64) :
    readBody 6 (FrameBody.notice u text).bytes = some (.notice u text) := by
  have hlen : 2 ≤ text.length + 1 ∧ text.length + 1 ≤ 65 := by omega
  have hurgencyAt : field (FrameBody.notice u text).bytes 0 1 = u := field_of_drop (by rfl) hu
  have htext : (FrameBody.notice u text).bytes.drop 1 = text := rfl
  simp only [readBody, notice_bytes_length, hlen, hurgencyAt, htext, and_self, if_true]

section
variable {c : QuoteContents}

theorem quote_bytes_drop (c : QuoteContents) :
    (FrameBody.quote c).bytes.drop 9 = writeOption writeSide c.bid ++ writeOption writeSide c.ask := rfl

theorem quote_bytes_length (hbid : c.presence.getLsbD 0 = c.bid.isSome) (hask : c.presence.getLsbD 1 = c.ask.isSome) :
    (FrameBody.quote c).bytes.length = quoteLength 9 c.presence := by
  simp only [FrameBody.bytes, writeBody, Symbol.bytes, List.length_append, List.length_cons, List.length_nil,
    toBytes_length, writeOption_length writeSide_length, quoteLength, hbid, hask]

theorem readBody_quote (hrev : c.revision < 65536) (hb : c.presence.getLsbD 0 = c.bid.isSome)
    (ha : c.presence.getLsbD 1 = c.ask.isSome) (hbid : ∀ x ∈ c.bid, x.price < 16777216 ∧ x.size < 65536)
    (hask : ∀ x ∈ c.ask, x.price < 16777216 ∧ x.size < 65536) :
    readBody 2 (FrameBody.quote c).bytes = some (.quote c) := by
  have hlen : 9 ≤ quoteLength 9 c.presence := by
    rw [quoteLength]
    omega
  have hsymbol : Symbol.ofList (FrameBody.quote c).bytes = c.symbol := rfl
  have hday : byteAt (FrameBody.quote c).bytes 5 = c.day := rfl
  have hrevAt : field (FrameBody.quote c).bytes 6 2 = c.revision := field_of_drop (by rfl) hrev
  have hpresence : byteAt (FrameBody.quote c).bytes 8 = c.presence := rfl
  have hbidAt : sideIf c.bid.isSome (FrameBody.quote c).bytes 9 = c.bid := sideIf_of_drop (quote_bytes_drop c) hbid
  have haskAt : sideIf c.ask.isSome (FrameBody.quote c).bytes (9 + sizeIf c.bid.isSome 5) = c.ask := by
    refine sideIf_of_drop (rest := []) ?_ hask
    rw [← List.drop_drop, quote_bytes_drop, List.append_nil, ← writeOption_length writeSide_length, List.drop_left]
  simp only [readBody, quote_bytes_length hb ha, hpresence, hlen, readQuote, hsymbol, hday, hrevAt, hb, ha, hbidAt, haskAt,
    and_self, if_true]

end

section
variable {c : ReplyContents}

/-- The optional fields of a REPLY in the order of their presence bits. -/
def ReplyContents.optionals (c : ReplyContents) : List (List Byte) :=
  [writeOption (toBytes 3) c.previousClose, writeOption (toBytes 3) c.opening, writeOption (toBytes 3) c.high,
    writeOption (toBytes 3) c.low, writeOption (toBytes 3) c.last, writeOption writeSide c.bid, writeOption writeSide c.ask]

/-- The presence bits of a REPLY, with the saturation in bit 7. -/
def ReplyContents.bits (c : ReplyContents) : List Bool :=
  [c.previousClose.isSome, c.opening.isSome, c.high.isSome, c.low.isSome, c.last.isSome, c.bid.isSome, c.ask.isSome,
    c.saturated]

/-- The presence byte of a REPLY. -/
def ReplyContents.presence (c : ReplyContents) : Byte :=
  presenceByte c.bits

theorem reply_bytes (c : ReplyContents) : (FrameBody.reply c).bytes =
    c.symbol.bytes ++ c.day :: (toBytes 2 c.revision ++ (toBytes 1 c.stateCode ++ (toBytes 1 c.tickCode ++
      c.presence :: (toBytes 4 c.volume ++ (toBytes 2 c.saleCount ++ c.optionals.flatten))))) := by
  simp [FrameBody.bytes, writeBody, ReplyContents.presence, ReplyContents.bits, ReplyContents.optionals]

theorem reply_bytes_drop (c : ReplyContents) : (FrameBody.reply c).bytes.drop 17 = c.optionals.flatten := by
  rw [reply_bytes]
  rfl

/-- Each optional field of a REPLY takes the bytes that its presence bit says. -/
theorem ReplyContents.optionals_lengths (c : ReplyContents) : c.optionals.map List.length =
    (List.range 7).map fun i => sizeIf (c.presence.getLsbD i) (if i < 5 then 3 else 5) := by
  have hprice := writeOption_length (f := toBytes 3) (toBytes_length 3)
  have hside := writeOption_length (f := writeSide) writeSide_length
  have hbits : ∀ i ∈ List.range 7, c.presence.getLsbD i = c.bits.getD i false := fun i hi =>
    presenceByte_getLsbD c.bits (by have := List.mem_range.mp hi; omega)
  have hsizes : ((List.range 7).map fun i => sizeIf (c.presence.getLsbD i) (if i < 5 then 3 else 5)) =
      (List.range 7).map fun i => sizeIf (c.bits.getD i false) (if i < 5 then 3 else 5) :=
    List.map_congr_left fun i hi => by rw [hbits i hi]
  rw [hsizes]
  simp [ReplyContents.optionals, ReplyContents.bits, List.range_succ, hprice, hside]

theorem ReplyContents.replyOffset_presence (c : ReplyContents) {k : Nat} (hk : k ≤ 7) :
    replyOffset c.presence k = 17 + ((c.optionals.map List.length).take k).sum := by
  rw [c.optionals_lengths, ← List.map_take, List.take_range, Nat.min_eq_left hk, replyOffset]

/-- At the place of an optional field stand it and those after it. -/
theorem reply_bytes_drop_replyOffset (c : ReplyContents) {k : Nat} (hk : k ≤ 7) :
    (FrameBody.reply c).bytes.drop (replyOffset c.presence k) = (c.optionals.drop k).flatten := by
  rw [c.replyOffset_presence hk, ← List.drop_drop, reply_bytes_drop, List.drop_sum_flatten]

theorem reply_bytes_length (c : ReplyContents) : (FrameBody.reply c).bytes.length = replyOffset c.presence 7 := by
  have hfixed : 17 ≤ (FrameBody.reply c).bytes.length := by
    simp only [reply_bytes, Symbol.bytes, List.length_append, List.length_cons, List.length_nil, toBytes_length]
    omega
  have hrest : (FrameBody.reply c).bytes.length - 17 = c.optionals.flatten.length := by
    rw [← List.length_drop, reply_bytes_drop]
  have hall : (c.optionals.map List.length).take 7 = c.optionals.map List.length := rfl
  rw [c.replyOffset_presence le_rfl, hall, ← List.length_flatten]
  omega

/-- The optional fields take at most 5 bytes each, so that the length byte holds the length. -/
theorem replyOffset_lt (pr : Byte) : 17 ≤ replyOffset pr 7 ∧ replyOffset pr 7 < 256 := by
  have hsize (b : Bool) {n : Nat} (hn : n ≤ 5) : sizeIf b n ≤ 5 := by
    cases b <;> simp [sizeIf, hn]
  have hsum := List.sum_le_card_nsmul ((List.range 7).map fun i => sizeIf (pr.getLsbD i) (if i < 5 then 3 else 5)) 5
    (by
      rintro _ hx
      obtain ⟨i, -, rfl⟩ := List.mem_map.mp hx
      exact hsize _ (by split <;> omega))
  rw [List.length_map, List.length_range, smul_eq_mul] at hsum
  rw [replyOffset]
  omega

theorem readBody_reply_bytes (hrev : c.revision < 65536) (hstate : c.stateCode < 256) (htick : c.tickCode < 256)
    (hvol : c.volume < 4294967296) (hcount : c.saleCount < 65536) (hclose : ∀ x ∈ c.previousClose, x < 16777216)
    (hopen : ∀ x ∈ c.opening, x < 16777216) (hhigh : ∀ x ∈ c.high, x < 16777216) (hlow : ∀ x ∈ c.low, x < 16777216)
    (hlast : ∀ x ∈ c.last, x < 16777216) (hbid : ∀ x ∈ c.bid, x.price < 16777216 ∧ x.size < 65536)
    (hask : ∀ x ∈ c.ask, x.price < 16777216 ∧ x.size < 65536) :
    readBody 5 (FrameBody.reply c).bytes = some (.reply c) := by
  have hsymbol : Symbol.ofList (FrameBody.reply c).bytes = c.symbol := by rw [reply_bytes, Symbol.ofList_bytes]
  have hday : byteAt (FrameBody.reply c).bytes 5 = c.day := byteAt_of_drop (by rw [reply_bytes]; rfl)
  have hrevAt : field (FrameBody.reply c).bytes 6 2 = c.revision := field_of_drop (by rw [reply_bytes]; rfl) hrev
  have hstateAt : field (FrameBody.reply c).bytes 8 1 = c.stateCode := field_of_drop (by rw [reply_bytes]; rfl) hstate
  have htickAt : field (FrameBody.reply c).bytes 9 1 = c.tickCode := field_of_drop (by rw [reply_bytes]; rfl) htick
  have hpresence : byteAt (FrameBody.reply c).bytes 10 = c.presence := byteAt_of_drop (by rw [reply_bytes]; rfl)
  have hvolAt : field (FrameBody.reply c).bytes 11 4 = c.volume := field_of_drop (by rw [reply_bytes]; rfl) hvol
  have hcountAt : field (FrameBody.reply c).bytes 15 2 = c.saleCount := field_of_drop (by rw [reply_bytes]; rfl) hcount
  have hbit {i : Nat} (hi : i < 8) : c.presence.getLsbD i = c.bits.getD i false := presenceByte_getLsbD c.bits hi
  have hdrop {k : Nat} (hk : k ≤ 7) := reply_bytes_drop_replyOffset c hk
  have hcloseAt := priceIf_of_drop (hdrop (k := 0) (by decide)) hclose
  have hopenAt := priceIf_of_drop (hdrop (k := 1) (by decide)) hopen
  have hhighAt := priceIf_of_drop (hdrop (k := 2) (by decide)) hhigh
  have hlowAt := priceIf_of_drop (hdrop (k := 3) (by decide)) hlow
  have hlastAt := priceIf_of_drop (hdrop (k := 4) (by decide)) hlast
  have hbidAt := sideIf_of_drop (hdrop (k := 5) (by decide)) hbid
  have haskAt := sideIf_of_drop (hdrop (k := 6) (by decide)) hask
  have hread : readReply (FrameBody.reply c).bytes = c := by
    simp only [readReply, hsymbol, hday, hrevAt, hstateAt, htickAt, hpresence, hvolAt, hcountAt, hbit, Nat.reduceLT]
    simp only [ReplyContents.bits, List.getD_cons_zero, List.getD_cons_succ, hcloseAt, hopenAt, hhighAt, hlowAt, hlastAt,
      hbidAt, haskAt]
  simp only [readBody, reply_bytes_length, hpresence, replyOffset_lt, hread, and_self, if_true]

end

/-- Settles O19: each kind by the reading of its body. -/
theorem frameRoundTrip : Obligations.FrameRoundTrip := by
  intro origin h1 h62
  have accepted {body : FrameBody} {n : Nat} (hlen : body.bytes.length = n) (hn : n < 256)
      (hread : readBody (writeBody body).1.toNat body.bytes = some body) :
      readFrame (writeFrame origin body) = some (origin, body) := readFrame_writeFrame h1 h62 rfl (hlen.trans_lt hn) hread
  refine ⟨fun c hrev htime hprice hvol => ?_, fun c hrev hb ha hbid hask => ?_, fun c hrev hcode => ?_, fun s d => ?_,
    fun c hrev hstate htick hvol hcount hclose hopen hhigh hlow hlast hbid hask => ?_, fun u text hu hlo hhi => ?_,
    fun d ph hph => ?_, fun w h m sec hw hh hm hs => ?_, fun g a hg ha => ?_⟩
  · exact accepted (body := .sale c) (n := 17) rfl (by decide) (readBody_sale hrev htime hprice hvol)
  · have hlen : quoteLength 9 c.presence < 256 := by
      unfold quoteLength sizeIf
      split <;> split <;> decide
    exact accepted (quote_bytes_length hb ha) hlen (readBody_quote hrev hb ha hbid hask)
  · exact accepted (body := .state c) (n := 9) rfl (by decide) (readBody_state hrev hcode)
  · exact accepted (body := .recallFor s d) (n := 6) rfl (by decide) (readBody_recallFor s d)
  · exact accepted (reply_bytes_length c) (replyOffset_lt c.presence).2
      (readBody_reply_bytes hrev hstate htick hvol hcount hclose hopen hhigh hlow hlast hbid hask)
  · exact accepted (notice_bytes_length u text) (by omega) (readBody_notice hu hlo hhi)
  · exact accepted (body := .session d ph) (n := 2) rfl (by decide) (readBody_session d hph)
  · exact accepted (body := .clock w h m sec) (n := 4) rfl (by decide) (readBody_clock hw hh hm hs)
  · exact accepted (body := .hold g a) (n := 2) rfl (by decide) (readBody_hold hg ha)

end Sys2Proof.Machine
end

section
/-! What the station's own offers, the marks and the end of an event spare (R24, R47, R70, R97). -/

namespace Sys2Proof.Machine

/-! ### The parts of the state that are spared -/

/-- What a mark, an offer and the end of an event leave as it was: the sense and the listen-only of the line, the clock,
the Console Port, the ribbon, the panels, and every record's quotation (R7). -/
structure Part.Spares (p q : Part) : Prop where
  sense : q.line.sense = p.line.sense
  listenOnly : q.line.listenOnly = p.line.listenOnly
  clock : q.clock = p.clock
  console : q.console = p.console
  ribbon : q.ribbon = p.ribbon
  panels : q.board.panels = p.board.panels
  quotations : q.quotations = p.quotations

section
variable {p q r : Part}

theorem Part.Spares.refl (p : Part) : p.Spares p :=
  ⟨rfl, rfl, rfl, rfl, rfl, rfl, rfl⟩

theorem Part.Spares.trans (h : p.Spares q) (h' : q.Spares r) : p.Spares r where
  sense := h'.sense.trans h.sense
  listenOnly := h'.listenOnly.trans h.listenOnly
  clock := h'.clock.trans h.clock
  console := h'.console.trans h.console
  ribbon := h'.ribbon.trans h.ribbon
  panels := h'.panels.trans h.panels
  quotations := h'.quotations.trans h.quotations

theorem Part.settle_spares (p : Part) : p.Spares p.settle := by
  have hfollows := p.settle_follows
  obtain ⟨f, b, ts, u, rs, l, h, -⟩ := p.settle_spec
  refine ⟨hfollows.sense, hfollows.listenOnly, hfollows.clock, ?_, ?_, hfollows.panels, hfollows.quotations⟩ <;> rw [h]

theorem Part.Spares.settle (h : p.Spares q) : p.Spares q.settle :=
  h.trans q.settle_spares

theorem Part.offerOwn_spares (b : TxBody) (p : Part) : p.Spares (p.offerOwn b) := by
  unfold Part.offerOwn
  split
  · exact .refl p
  · obtain ⟨u, rs, l, h, hr, hs, hl⟩ := p.offer_spec b
    rw [h]
    exact ⟨hs, hl, rfl, rfl, rfl, rfl, hr⟩

theorem Part.markDependents_spares (old : List Record) (p : Part) : p.Spares (p.markDependents old) := by
  obtain ⟨zs, d, h⟩ := p.markDependents_spec old
  rw [h]
  exact ⟨rfl, rfl, rfl, rfl, rfl, rfl, rfl⟩

theorem Part.blankAtClose_spares (p : Part) : p.Spares p.blankAtClose := by
  unfold Part.blankAtClose Board.requestBlank
  split
  · split <;> exact ⟨rfl, rfl, rfl, rfl, rfl, rfl, rfl⟩
  · exact .refl p

end

/-! ### The frame that the station offers (R70, R87 to R89) -/

section
variable {p q : Part} {b : TxBody}

/-- R70: with room in the queue and a frame being sent, an own frame stands at the queue's end. -/
theorem Part.offerOwn_of_room (hlo : p.line.listenOnly = false) (hq : p.line.queue.length < 16)
    (hc : p.line.current.isSome = true) :
    p.offerOwn b = { p with line := { p.line with
      queue := p.line.queue ++ [⟨p.line.nextAge, b⟩], nextAge := p.line.nextAge + 1 } } := by
  simp [Part.offerOwn, hlo, p.offer_of_sending b hq hc]

/-- R48: a RECALL is LOW, so its offer displaces no frame. -/
theorem Part.mem_queueRecall_queue {f : QueuedFrame} (i : Nat) (hc : p.line.current.isSome = true)
    (hf : f ∈ p.line.queue) : f ∈ (p.queueRecall i).line.queue := by
  by_cases hroom : p.line.queue.length < Config.queuePlaces
  · rw [Part.queueRecall_of_room _ _ hroom, Part.takeFrame_of_sending]
    · exact List.mem_append_left _ hf
    · exact hc
  · rw [Part.queueRecall_of_full _ _ hroom]
    exact hf

theorem Part.mem_recallTest_queue {f : QueuedFrame} (hc : p.line.current.isSome = true) (hf : f ∈ p.line.queue) :
    f ∈ p.recallTest.line.queue := by
  unfold Part.recallTest
  split
  · rename_i i rest _
    split
    · exact Part.mem_queueRecall_queue (p := { p with recalls := { p.recalls with list := rest } }) i hc hf
    · exact hf
  · exact hf

/-- R70: an own frame that joined is queued at the end of the event. -/
theorem Part.mem_settle_queue_of_offered (hlo : p.line.listenOnly = false) (hq : p.line.queue.length < 16)
    (hc : p.line.current.isSome = true) (h : q.line = (p.offerOwn b).line) :
    (⟨p.line.nextAge, b⟩ : QueuedFrame) ∈ q.settle.line.queue := by
  rw [Part.offerOwn_of_room hlo hq hc] at h
  unfold Part.settle
  refine Part.mem_recallTest_queue ?_ ?_ <;> rw [Part.termsKick_line, Part.boardKick_line, h]
  · exact hc
  · exact List.mem_append_right _ (List.mem_singleton_self _)

/-- With an empty Recall List the end of an event leaves the line (R47). -/
theorem Part.settle_line_of_empty (h : p.recalls.list = []) : p.settle.line = p.line := by
  have hlist : p.boardKick.termsKick.recalls.list = [] := by
    obtain ⟨f, b, hb, -⟩ := p.boardKick_spec
    obtain ⟨f', ts, ht, -⟩ := p.boardKick.termsKick_spec
    rw [ht, hb]
    exact h
  rw [Part.settle, Part.recallTest_of_empty _ hlist, Part.termsKick_line, Part.boardKick_line]

/-- A Board Writer at work chooses nothing at the end of an event (R97). -/
theorem Part.settle_board_of_busy (h : p.board.op ≠ .idle) : p.settle.board = p.board := by
  obtain ⟨f, b, ts, u, rs, l, hs, hb, -⟩ := p.settle_spec
  rw [hs]
  exact hb.resolve_right fun hidle => h hidle.1

end

end Sys2Proof.Machine
end

section
/-! The second timer and a CLOCK frame heard (R79 to R81, R85, R86), with what the actions of the Timetable do
to the clock (R87 to R89). -/

namespace Sys2Proof.Machine

/-! ### Rollovers (R21 to R23) -/

/-- The records and the session after a rollover, before the marks of dependents. -/
def Part.rolled (f : Record → Record) (x : SessionDay) (p : Part) : Part :=
  { p with records := p.records.map f, clock := { p.clock with session := some x } }

section
variable {p : Part} {f : Record → Record} {x : SessionDay} {d : Day}

theorem Part.rollover_eq (f : Record → Record) (x : SessionDay) (p : Part) :
    p.rollover f x = (p.rolled f x).markDependents p.records := rfl

theorem Part.rollover_spares (f : Record → Record) (x : SessionDay) (p : Part) :
    (p.rolled f x).Spares (p.rollover f x) :=
  Part.markDependents_spares p.records (p.rolled f x)

theorem Part.rolled_quotations {g : Record → Record}
    (h : ∀ r, ({ f r with recallState := .none } : Record) = g { r with recallState := .none }) :
    (p.rolled f x).quotations = p.quotations.map g := by
  simp [Part.quotations, Part.rolled, Function.comp_def, h]

theorem Part.openAction_of_closed (h : p.clock.session = some ⟨d, .closed⟩) :
    p.openAction = (p.openDay (d + 1)).offerOwn (.session (d + 1) 0) := by
  simp [Part.openAction, h]

theorem Part.closeAction_of_opened (h : p.clock.session = some ⟨d, .opened⟩) :
    p.closeAction = ((p.closeDay d).offerOwn (.session d 1)).blankAtClose := by
  simp [Part.closeAction, h]

/-- R87: what the OPEN action of a CLOSED station makes of it. -/
theorem Part.openAction_spares (h : p.clock.session = some ⟨d, .closed⟩) :
    (p.rolled (Record.openRollover (d + 1)) ⟨d + 1, .opened⟩).Spares p.openAction := by
  rw [Part.openAction_of_closed h]
  exact (p.rollover_spares _ _).trans (Part.offerOwn_spares _ _)

/-- R88: what the CLOSE action of an OPEN station makes of it. -/
theorem Part.closeAction_spares (h : p.clock.session = some ⟨d, .opened⟩) :
    (p.rolled Record.closeRollover ⟨d, .closed⟩).Spares p.closeAction := by
  rw [Part.closeAction_of_opened h]
  exact ((p.rollover_spares _ _).trans (Part.offerOwn_spares _ _)).trans (Part.blankAtClose_spares _)

end

/-! ### SEND CLOCK (R89) -/

/-- R89: the SEND CLOCK action. -/
def Part.sendClock (p : Part) : Part :=
  if p.settings.clockSource then p.offerOwn .clock else p

theorem Part.performAction_sendClock (hour minute : Nat) (p : Part) :
    p.performAction hour minute .sendClock = p.sendClock.settle := rfl

/-- R89: only a clock source that is not listen-only offers a CLOCK frame. -/
theorem Part.sendClock_of_silent {p : Part} (h : p.settings.clockSource = false ∨ p.line.listenOnly = true) :
    p.sendClock = p := by
  rcases h with h | h <;> simp [Part.sendClock, Part.offerOwn, h]

theorem Part.sendClock_of_source {p : Part} (h : p.settings.clockSource = true) : p.sendClock = p.offerOwn .clock :=
  if_pos h

theorem Part.sendClock_spares (p : Part) : p.Spares p.sendClock := by
  unfold Part.sendClock
  split
  · exact Part.offerOwn_spares _ _
  · exact .refl p

/-! ### The second timer and the minute boundary (R79, R85, R86) -/

theorem exec_secondTimerExpiry (s : State) :
    exec .secondTimerExpiry s = .next (s.onPart (Part.whenRunning Part.secondExpiry)) := rfl

section
variable {p : Part} {w n hour minute : Nat} {e : TimetableEntry}

theorem TimeOfDay.advance_eq (w n : Nat) :
    (⟨w, n⟩ : TimeOfDay).advance = if n < 86399 then ⟨w, n + 1⟩ else ⟨if w < 7 then w + 1 else 1, 0⟩ := rfl

theorem Part.secondExpiry_of_unset (h : p.clock.time = none) : p.secondExpiry = p := by
  simp [Part.secondExpiry, h]

theorem Part.secondExpiry_of_set {t : TimeOfDay} (h : p.clock.time = some t) :
    p.secondExpiry = if t.advance.seconds % 60 = 0 then (p.setTime t.advance).minuteBoundary t.advance
      else p.setTime t.advance := by
  simp [Part.secondExpiry, h]

/-- An action of the Timetable leaves the time of day. -/
theorem Part.performAction_time (hour minute : Nat) (a : TimetableAction) (p : Part) :
    (p.performAction hour minute a).clock.time = p.clock.time := by
  unfold Part.performAction
  rw [(Part.settle_spares _).clock]
  cases a with
  | openSession =>
    simp only [Part.openAction]
    split
    · rename_i d h
      rw [← Part.openAction_of_closed h, (Part.openAction_spares h).clock]
      rfl
    · rfl
  | closeSession =>
    simp only [Part.closeAction]
    split
    · rename_i d h
      rw [← Part.closeAction_of_opened h, (Part.closeAction_spares h).clock]
      rfl
    · rfl
  | tapeTime =>
    obtain ⟨f, rib, h, -⟩ := p.onTape_spec fun env => Tape.join env .routine (.tapeTime hour minute)
    simp only [h]
  | repaint => rfl
  | sendClock => exact congrArg Clock.time p.sendClock_spares.clock

theorem Part.minuteBoundary_time (t : TimeOfDay) (p : Part) : (p.minuteBoundary t).clock.time = p.clock.time := by
  have hfold (hour minute : Nat) (es : List TimetableEntry) (q : Part) :
      (es.foldl (fun q e => q.performAction hour minute e.action) q).clock.time = q.clock.time := by
    induction es generalizing q with
    | nil => rfl
    | cons e es ih => rw [List.foldl_cons, ih, Part.performAction_time]
  exact hfold _ _ _ p

/-- R79: the clock of a station at the end of the second timer's run, whatever the Timetable does. -/
theorem Part.secondExpiry_time {t : TimeOfDay} (h : p.clock.time = some t) :
    p.secondExpiry.clock.time = some t.advance := by
  rw [Part.secondExpiry_of_set h]
  split
  · exact Part.minuteBoundary_time _ _
  · rfl

/-- R85. -/
theorem TimetableEntry.matchesAt_of (h1 : 1 ≤ w) (h7 : w ≤ 7) (hw : e.weekdays.getLsbD (w - 1) = true)
    (hh : e.hour = some hour ∨ e.hour = none) (hm : e.minute = some minute ∨ e.minute = none) :
    e.matchesAt w hour minute = true := by
  simp [TimetableEntry.matchesAt, h1, h7, hw, hh.symm, hm.symm]

/-- R86: a Timetable of one entry that matches the boundary. -/
theorem Part.minuteBoundary_of_entry (ht : p.clock.timetable = [e]) (hm : minute < 60)
    (he : e.matchesAt w hour minute = true) :
    p.minuteBoundary ⟨w, hour * 3600 + minute * 60⟩ = p.performAction hour minute e.action := by
  have hhour : (hour * 3600 + minute * 60) / 3600 = hour := by omega
  have hminute : (hour * 3600 + minute * 60) / 60 % 60 = minute := by omega
  simp [Part.minuteBoundary, ht, hhour, hminute, he]

/-- R79, R86: the second before a minute boundary, with a Timetable of one entry that matches it. -/
theorem Part.secondExpiry_of_entry (hh : hour < 24) (hm : minute < 60) (hpos : 0 < hour * 3600 + minute * 60)
    (htime : p.clock.time = some ⟨w, hour * 3600 + minute * 60 - 1⟩) (ht : p.clock.timetable = [e])
    (he : e.matchesAt w hour minute = true) :
    p.secondExpiry = (p.setTime ⟨w, hour * 3600 + minute * 60⟩).performAction hour minute e.action := by
  have hadvance : (⟨w, hour * 3600 + minute * 60 - 1⟩ : TimeOfDay).advance = ⟨w, hour * 3600 + minute * 60⟩ := by
    rw [TimeOfDay.advance_eq, if_pos (by omega), Nat.sub_add_cancel hpos]
  rw [Part.secondExpiry_of_set htime, hadvance, if_pos (by dsimp only; omega)]
  exact Part.minuteBoundary_of_entry ht hm he

end

/-! ### A CLOCK frame heard (R81) -/

theorem timeInRange_iff (w h m n : Nat) :
    timeInRange w h m n = true ↔ (1 ≤ w ∧ w ≤ 7) ∧ h ≤ 23 ∧ m ≤ 59 ∧ n ≤ 59 := by
  simp [timeInRange, and_assoc]

theorem Part.clockHeard_of_inRange {p : Part} {w h m n : Nat} (hr : timeInRange w h m n = true) :
    p.clockHeard w h m n = { p with clock := { p.clock with time := some ⟨w, h * 3600 + m * 60 + n⟩ } } := by
  rw [Part.clockHeard, if_pos hr]
  rfl

theorem Part.clockHeard_of_outOfRange {p : Part} {w h m n : Nat} (hr : ¬ timeInRange w h m n = true) :
    p.clockHeard w h m n = p :=
  if_neg hr

theorem Part.clockHeard_spec (w h m n : Nat) (p : Part) :
    p.clockHeard w h m n = { p with clock := (p.clockHeard w h m n).clock } := by
  unfold Part.clockHeard
  split <;> rfl

theorem Part.clockHeard_spares (w h m n : Nat) (p : Part) :
    ({ p with clock := (p.clockHeard w h m n).clock } : Part).Spares (p.clockHeard w h m n).settle := by
  refine Part.Spares.settle ?_
  rw [← Part.clockHeard_spec]
  exact .refl _

/-- R81: the clock heard reads and writes the clock alone. -/
theorem Part.clockHeard_clock_congr {p q : Part} (w h m n : Nat) (hc : q.clock = p.clock) :
    (q.clockHeard w h m n).clock = (p.clockHeard w h m n).clock := by
  unfold Part.clockHeard
  split <;> simp [Part.setTime, hc]

/-- Settles O30: the second timer by its time, and a CLOCK frame by its range. -/
theorem secondAdvances : Obligations.SecondAdvances := by
  refine ⟨fun s w n hrun htime => ?_, fun s htime => ?_, fun p w h m n => ⟨fun hr => ?_, fun hr => ?_⟩,
    fun s bytes origin w h m n hrun hd hs hframe => ?_⟩
  · refine ⟨_, next_whenRunning hrun rfl, Part.secondExpiry_time htime, fun hn hmin => ?_⟩
    have hadvance : (⟨w, n⟩ : TimeOfDay).advance = ⟨w, n + 1⟩ := if_pos hn
    rw [Part.secondExpiry_of_set htime, hadvance, if_neg hmin]
    rfl
  · have hstill : s.part.whenRunning Part.secondExpiry = s.part := by
      unfold Part.whenRunning
      split
      · exact Part.secondExpiry_of_unset htime
      · rfl
    rw [exec_secondTimerExpiry, next_onPart hstill]
    rfl
  · exact Part.clockHeard_of_inRange ((timeInRange_iff w h m n).mpr hr)
  · refine Part.clockHeard_of_outOfRange fun hin => ?_
    have := (timeInRange_iff w h m n).mp hin
    omega
  · obtain ⟨flags, hend⟩ := Part.endOfTransmission_of_frame hrun hd hs hframe
    refine ⟨{ s with part := s.part.endOfTransmission bytes }, rfl, ?_⟩
    simp only [hend, Part.handFrame]
    set p : Part := { s.part with
      line := { s.part.line.becomeQuiet with listenOnly := s.part.line.listenOnly || origin == s.part.settings.station }
      console := { s.part.console with flags := flags } }
    obtain ⟨hsense, -, hclock, hconsole, hribbon, hpanels, hquot⟩ := p.clockHeard_spares w h m n
    refine ⟨hsense, hquot, hribbon, ?_, ?_, hpanels, hclock.trans (Part.clockHeard_clock_congr w h m n rfl)⟩ <;>
      rw [hconsole]

end Sys2Proof.Machine
end

section
/-! The actions of the Timetable at a minute boundary (R86 to R89). -/

namespace Sys2Proof.Machine

/-! ### TAPE TIME and REPAINT (R89, R104, R121) -/

section
variable {p : Part} {t : Tape}

/-- R121: a routine entry takes the slot at the head of the free list, and without a free slot is not made. -/
theorem Tape.makeEntry_routine_spec (content : EntryContent) (t : Tape) :
    (t.makeEntry .routine content).rib.urgent = t.rib.urgent ∧ (t.makeEntry .routine content).rib.crawl = t.rib.crawl ∧
      (t.rib.free = [] → t.makeEntry .routine content = t) ∧
      ∀ slot rest, t.rib.free = slot :: rest → (t.makeEntry .routine content).rib.free = rest ∧
        (t.makeEntry .routine content).rib.routine = t.rib.routine ++ [⟨slot, .waiting, content, none⟩] := by
  cases h : t.rib.free <;> simp [Tape.makeEntry, h]

/-- R133: while the crawl is not IDLE an entry that joins is not taken. -/
theorem Tape.join_routine_of_crawling {env : TapeEnv} {content : EntryContent} (h : t.rib.crawl ≠ .idle) :
    t.join env .routine content = t.makeEntry .routine content := by
  obtain ⟨-, hcrawl, -⟩ := t.makeEntry_routine_spec content
  rw [Tape.join, if_neg]
  rwa [hcrawl]

/-- R25: a ribbon request made while the Formatter is at work waits, and binds nothing. -/
theorem Part.ribbonRequest_of_forming (h : p.formatter.forming.isSome = true) :
    ∃ f req, p.ribbonRequest = { p with formatter := f, ribbon := { p.ribbon with request := req } } := by
  have hbusy : ¬ p.formatter.forming.isNone = true := p.not_idle_of_forming h
  unfold Part.ribbonRequest
  split
  · rename_i e _
    split
    · simp only [Part.request, hbusy]
      exact ⟨_, some e.slot, rfl⟩
    · exact ⟨_, _, rfl⟩
  · exact ⟨_, _, rfl⟩

/-- R89, R121: a routine entry made while the Formatter and the crawl are at work. -/
theorem Part.onTape_join_of_forming (content : EntryContent) (hf : p.formatter.forming.isSome = true)
    (hc : p.ribbon.crawl ≠ .idle) :
    ∃ f req flags, p.onTape (fun env => Tape.join env .routine content) = { p with
      formatter := f
      ribbon := { (Tape.makeEntry .routine content ⟨p.ribbon, p.console.flags⟩).rib with request := req }
      console := { p.console with flags := flags } } := by
  have hjoin := Tape.join_routine_of_crawling (env := p.tapeEnv) (content := content)
    (t := ⟨p.ribbon, p.console.flags⟩) hc
  unfold Part.onTape
  simp only [hjoin]
  set t := Tape.makeEntry .routine content ⟨p.ribbon, p.console.flags⟩
  obtain ⟨f, req, h⟩ := Part.ribbonRequest_of_forming
    (p := { p with ribbon := t.rib, console := { p.console with flags := t.flags } }) hf
  exact ⟨f, req, t.flags, h⟩

end

section
variable (b : Board)

theorem Board.blankUnderWay_iff : b.blankUnderWay = true ↔ b.blankPending = true ∨ ∃ k, b.op = .blanking k := by
  unfold Board.blankUnderWay
  cases b.op <;> simp

theorem Board.requestRepaint_op : b.requestRepaint.op = b.op := by
  unfold Board.requestRepaint
  split <;> rfl

variable {b}

/-- R104: a repaint waits for a blank that is pending or under way. -/
theorem Board.requestRepaint_of_blank (h : b.blankPending = true ∨ ∃ k, b.op = .blanking k) :
    b.requestRepaint = { b with repaintHeld := true } :=
  if_pos (b.blankUnderWay_iff.mpr h)

/-- R104, R107: a repaint starts, or starts again, at position 0. -/
theorem Board.requestRepaint_of_no_blank (hp : b.blankPending = false) (ho : ∀ k, b.op ≠ .blanking k)
    (hpos : b.positions ≠ []) :
    b.requestRepaint = { b with
      cursor := some 0, nextSource := if b.cursor = none then .queue else b.nextSource } := by
  have hno : ¬ b.blankUnderWay = true := by simp [b.blankUnderWay_iff, hp, ho]
  rw [Board.requestRepaint, if_neg hno, Board.startRepaint]
  cases b.cursor <;> simp [hpos]

end

/-! ### The minute boundary (R86) -/

@[simp] theorem State.withPart_part (s : State) (p : Part) : (s.withPart p).part = p := rfl

/-- Settles O31: the boundary performs the one entry, and the end of its event spares what is stated. -/
theorem timetableActionsAct : Obligations.TimetableActionsAct := by
  intro s w h m day e hrun hh hm hw1 hw7 hpos htime htable hwd hhour hminute
  set q : Part := s.part.setTime ⟨w, h * 3600 + m * 60⟩
  have hstep {a : TimetableAction} {r : Part} (ha : e.action = a) (hr : q.performAction h m a = r) :
      exec .secondTimerExpiry s = .next (s.withPart r) := by
    refine next_whenRunning hrun (Eq.trans ?_ (ha ▸ hr))
    exact Part.secondExpiry_of_entry hh hm hpos htime htable (TimetableEntry.matchesAt_of hw1 hw7 hwd hhour hminute)
  refine ⟨fun ha hs => ⟨s.withPart q.openAction.settle, hstep ha rfl, ?_⟩,
    fun ha hs => ⟨s.withPart q.closeAction.settle, hstep ha rfl, ?_⟩,
    fun ha hf hc => ⟨s.withPart (q.onTape fun env => Tape.join env .routine (.tapeTime h m)).settle, hstep ha rfl, ?_⟩,
    fun ha ho => ⟨s.withPart ({ q with board := q.board.requestRepaint } : Part).settle, hstep ha rfl, ?_⟩,
    fun ha hlist => ⟨s.withPart q.sendClock.settle, hstep ha (q.performAction_sendClock h m), ?_⟩⟩ <;>
    rw [State.withPart_part]
  · have hspares := (Part.openAction_spares (p := q) hs).settle
    refine ⟨congrArg Clock.session hspares.clock, hspares.ribbon, hspares.console, hspares.panels, hspares.listenOnly,
      hspares.quotations.trans (Part.rolled_quotations fun r => ?_), fun hlo hroom hc => ?_⟩
    · cases hl : r.shown.last <;> simp [Record.openRollover, hl]
    · exact Part.mem_settle_queue_of_offered (p := q.openDay (day + 1)) hlo hroom hc
        (congrArg Part.line (Part.openAction_of_closed hs))
  · have hspares := (Part.closeAction_spares (p := q) hs).settle
    refine ⟨congrArg Clock.session hspares.clock, hspares.ribbon, hspares.console, hspares.panels, hspares.listenOnly,
      hspares.quotations.trans (Part.rolled_quotations fun r => rfl), fun hlo hroom hc => ?_⟩
    refine Part.mem_settle_queue_of_offered (p := q.closeDay day) hlo hroom hc ?_
    rw [Part.closeAction_of_opened (p := q) hs, Part.blankAtClose_line]
  · obtain ⟨f, req, flags, htape⟩ := Part.onTape_join_of_forming (p := q) (.tapeTime h m) hf hc
    have hspares := (q.onTape fun env => Tape.join env .routine (.tapeTime h m)).settle_spares
    rw [htape] at hspares ⊢
    obtain ⟨hurgent, hcrawl, hfull, htaken⟩ := Tape.makeEntry_routine_spec (.tapeTime h m) ⟨q.ribbon, q.console.flags⟩
    refine ⟨hspares.quotations, (congrArg Clock.session hspares.clock :), hspares.panels, ?_⟩
    rw [hspares.ribbon]
    refine ⟨hurgent, hcrawl, fun hfree => ?_, htaken⟩
    rw [hfull hfree]
    exact ⟨hfree, rfl⟩
  · have hspares := ({ q with board := q.board.requestRepaint } : Part).settle_spares
    have hboard := Part.settle_board_of_busy (p := { q with board := q.board.requestRepaint })
      (by rw [Board.requestRepaint_op]; exact ho)
    refine ⟨hspares.quotations, (congrArg Clock.session hspares.clock :), hspares.ribbon, hspares.console,
      fun hb => hboard.trans (Board.requestRepaint_of_blank hb),
      fun hp hk hne => hboard.trans (Board.requestRepaint_of_no_blank hp hk hne)⟩
  · have hspares := q.sendClock_spares.settle
    refine ⟨hspares.quotations, (congrArg Clock.session hspares.clock :), hspares.ribbon, hspares.console, hspares.panels,
      fun hsilent => ?_, fun hsource hlo hroom hc => ?_⟩
    · rw [Part.sendClock_of_silent (p := q) hsilent]
      exact Part.settle_line_of_empty hlist
    · rw [Part.sendClock_of_source (p := q) hsource, Part.offerOwn_of_room (p := q) hlo hroom hc]
      exact Part.settle_line_of_empty hlist

end Sys2Proof.Machine
end

section
/-! A SESSION frame heard, and an unset day adopted (R84, R90). -/

namespace Sys2Proof.Machine

/-! ### A SESSION frame heard (R90, Table 5-2) -/

section
variable {p : Part} {d f : Day} {phase : Nat}

theorem Part.sessionHeard_of_unset (h : p.clock.session = none) :
    (phase = 0 → p.sessionHeard f phase = { p with clock := { p.clock with session := some ⟨f, .opened⟩ } }) ∧
      (phase = 1 → p.sessionHeard f phase = { p with clock := { p.clock with session := some ⟨f, .closed⟩ } }) ∧
      (2 ≤ phase → p.sessionHeard f phase = p) := by
  unfold Part.sessionHeard
  rw [h]
  match phase with
  | 0 => simp
  | 1 => simp
  | k + 2 => simp

theorem Part.sessionHeard_of_opened (h : p.clock.session = some ⟨d, .opened⟩) :
    p.sessionHeard f phase = if phase = 1 ∧ f = d then (p.closeDay d).blankAtClose else p := by
  unfold Part.sessionHeard
  rw [h]
  match phase with
  | 0 => simp
  | 1 => simp
  | k + 2 => simp

theorem Part.sessionHeard_of_closed (h : p.clock.session = some ⟨d, .closed⟩) :
    p.sessionHeard f phase = if phase = 0 ∧ f = d + 1 then p.openDay (d + 1) else p := by
  unfold Part.sessionHeard
  rw [h]
  match phase with
  | 0 => simp
  | k + 1 => simp

/-- R23: the marks of dependents, with which a rollover ends, leave a blank as it stands. -/
theorem Part.rollover_blankUnderWay (g : Record → Record) (x : SessionDay) (p : Part) :
    (p.rollover g x).board.blankUnderWay = p.board.blankUnderWay := by
  obtain ⟨zs, dirty, h⟩ := (p.rolled g x).markDependents_spec p.records
  rw [Part.rollover_eq, h]
  rfl

/-- R88, R108: the boards are to be blanked. -/
theorem Part.blankAtClose_pending (hs : p.settings.blankAtClose = true) (hb : p.board.blankUnderWay = false) :
    p.blankAtClose.board.blankPending = true := by
  simp [Part.blankAtClose, Board.requestBlank, hs, hb]

end

/-! ### An unset day adopted (R9, R84) -/

section
variable {p : Part}

theorem Part.adoptDay_of_unset (d : Day) (h : p.clock.session = none) :
    p.adoptDay d = { p with clock := { p.clock with session := some ⟨d, .opened⟩ } } := by
  simp [Part.adoptDay, h]

theorem Part.applyContents_clock (c : Contents) (i : Nat) (r : Record) (p : Part) :
    (p.applyContents c i r).clock = p.clock := by
  obtain ⟨b, happlied⟩ := p.applied_spec c i r
  cases hg : c.gate r with
  | ignored => rw [Part.applyContents_of_ignored hg]
  | applied doubt =>
    cases c with
    | reply x =>
      obtain ⟨queue, h, -⟩ := (p.applied (.reply x) i r).satisfyRecall_spec i r.recallState
      rw [Part.applyContents_reply hg, h, happlied]
    | sale x | quote x | state x =>
      rw [Part.applyContents_report (fun y => Contents.noConfusion) hg]
      split
      · rw [Part.makeDoubtful_clock, happlied]
      · rw [happlied]

/-- R6: well-formed contents reach the clock by the adoption of their day alone. -/
theorem Part.judge_clock {c : Contents} (hw : c.wellFormed = true) : (p.judge c).clock = (p.adoptDay c.day).clock := by
  have hcore : (p.judgeCore c).clock = (p.adoptDay c.day).clock := by
    simp only [Part.judgeCore, hw, if_true]
    split
    · rfl
    · split
      · rfl
      · split
        · exact Part.applyContents_clock _ _ _ _
        · rfl
  exact hcore

end

/-- Settles O32: Table 5-2 by the phase of the station, and the day adopted by a judgement. -/
theorem sessionHeardActs : Obligations.SessionHeardActs := by
  refine ⟨fun p f phase => ⟨fun h => Part.sessionHeard_of_unset h, fun d h => ?_, fun d h => ?_⟩, fun p c hw h => ?_⟩
  · rw [Part.sessionHeard_of_opened h]
    refine ⟨fun hp hf => ?_, fun hne => if_neg fun ⟨hp, hf⟩ => hne.elim (· hp) (· hf)⟩
    rw [if_pos ⟨hp, hf⟩]
    have hspares := (p.rollover_spares Record.closeRollover ⟨d, .closed⟩).trans (Part.blankAtClose_spares _)
    refine ⟨congrArg Clock.session hspares.clock, Part.blankAtClose_records _, Part.blankAtClose_line _,
      hspares.ribbon, fun hs hb => Part.blankAtClose_pending hs ?_⟩
    exact (p.rollover_blankUnderWay _ _).trans hb
  · rw [Part.sessionHeard_of_closed h]
    refine ⟨fun hp hf => ?_, fun hne => if_neg fun ⟨hp, hf⟩ => hne.elim (· hp) (· hf)⟩
    rw [if_pos ⟨hp, hf⟩]
    exact ⟨rfl, rfl, rfl, rfl⟩
  · rw [Part.judge_clock hw, Part.adoptDay_of_unset c.day h]

end Sys2Proof.Machine
end

section
/-! SUPPORT. The boards' law (R95, R100, 6.3), and how each operation of the Board Writer keeps it. -/

namespace Sys2Proof.Machine

/-- The boards' own part of the law: the Dirty Queue's, the FIXED zones' and the panels'. -/
structure Board.Lawful (b : Board) : Prop where
  dirty : b.DirtyLaw
  fixed : b.FixedLaw
  panels : b.PanelLaw

/-! ### Zones that come to owe a refresh (R95) -/

@[simp] theorem Zone.owe_owe (z : Zone) : z.owe.owe = z.owe := by
  cases h : z.fixed <;> simp [Zone.owe, h]

@[simp] theorem Zone.owe_isProtected (z : Zone) : z.owe.isProtected = z.isProtected := by
  simp [Zone.isProtected]

/-- A zone that stays as it is, or comes to owe a refresh. -/
def Zone.Owing (z z' : Zone) : Prop :=
  z' = z ∨ z' = z.owe

section
variable {x y z : Zone}

theorem Zone.Owing.trans (h : x.Owing y) (h' : y.Owing z) : x.Owing z := by
  rcases h with rfl | rfl
  · exact h'
  · rcases h' with rfl | rfl
    · exact .inr rfl
    · exact .inr (Zone.owe_owe x)

theorem Zone.Owing.isProtected (h : x.Owing y) : y.isProtected = x.isProtected := by
  rcases h with rfl | rfl
  · rfl
  · exact x.owe_isProtected

theorem Zone.Owing.refreshOwed (h : x.Owing y) (hx : x.refreshOwed = true) : y.refreshOwed = true := by
  rcases h with rfl | rfl
  · exact hx
  · unfold Zone.owe
    split
    · exact hx
    · rfl

/-- A FIXED zone never comes to owe. -/
theorem Zone.Owing.eq_of_fixed (h : x.Owing y) (hy : y.fixed = true) : y = x := by
  rcases h with rfl | rfl
  · rfl
  · rw [Zone.owe_fixed] at hy
    obtain ⟨-, -, -, -, hfixed⟩ := x.owe_spec
    exact hfixed hy

end

theorem get_zones_map (f : Zone → Zone) (zs : Vector Zone 16) (z : ZoneId) : (zs.map f).get z = f (zs.get z) := by
  simp [Vector.get_eq_getElem]

/-- R105: HELD zones passed over come to owe a refresh, and no zone changes otherwise. -/
theorem passHeld_owing (ps : List Position) (k : Nat) (zs : Vector Zone 16) (z : ZoneId) :
    (zs.get z).Owing ((passHeld ps k zs).1.get z) := by
  induction ps generalizing k zs with
  | nil => exact .inl rfl
  | cons q ps ih =>
    unfold passHeld
    split
    · refine Zone.Owing.trans ?_ (ih (k + 1) _)
      by_cases hz : q.zone = z
      · subst hz
        exact .inr (by simp [Vector.get_eq_getElem])
      · have hv : q.zone.val ≠ z.val := fun e => hz (Fin.ext e)
        exact .inl (by simp [Vector.get_eq_getElem, hv])
    · exact .inl rfl

/-! ### Changes by which the law cannot break -/

/-- A change of a board that adds no position to the Dirty Queue, moves no position to another zone, changes zones only
by owing and writes no panel. -/
structure Board.Eases (b c : Board) : Prop where
  dirty : c.dirty.Sublist b.dirty
  zoneOf : ∀ k, c.zoneOf k = b.zoneOf k
  zone : ∀ z, (b.zone z).Owing (c.zone z)
  panels : c.panels = b.panels

section
variable {b c d : Board}

/-- A change that leaves the positions' zones, the zones, the Dirty Queue and the panels. -/
theorem Board.Eases.of_same (hz : ∀ k, c.zoneOf k = b.zoneOf k) (hs : c.zones = b.zones) (hd : c.dirty = b.dirty)
    (hp : c.panels = b.panels) : b.Eases c :=
  ⟨hd ▸ List.Sublist.refl _, hz, fun z => .inl (by rw [Board.zone, hs, ← Board.zone]), hp⟩

theorem Board.Eases.refl (b : Board) : b.Eases b :=
  .of_same (fun _ => rfl) rfl rfl rfl

theorem Board.Eases.trans (h : b.Eases c) (h' : c.Eases d) : b.Eases d :=
  ⟨h'.dirty.trans h.dirty, fun k => (h'.zoneOf k).trans (h.zoneOf k), fun z => (h.zone z).trans (h'.zone z),
    h'.panels.trans h.panels⟩

theorem Board.Eases.lawful (h : b.Eases c) (hb : b.Lawful) : c.Lawful := by
  obtain ⟨⟨hnodup, hzones⟩, hfixed, hpanels⟩ := hb
  refine ⟨⟨hnodup.sublist h.dirty, fun k hk => ?_⟩, fun z hz => ?_, ?_⟩
  · obtain ⟨z, hzk, hp⟩ := hzones k (h.dirty.subset hk)
    exact ⟨z, (h.zoneOf k).trans hzk, (h.zone z).isProtected.trans hp⟩
  · have heq := (h.zone z).eq_of_fixed hz
    rw [heq] at hz ⊢
    exact hfixed z hz
  · rw [Board.PanelLaw, h.panels]
    exact hpanels

/-- What the law reads is the positions, the zones, the Dirty Queue and the panels. -/
theorem Board.Lawful.of_same (h : b.Lawful) (hps : c.positions = b.positions) (hz : c.zones = b.zones)
    (hd : c.dirty = b.dirty) (hp : c.panels = b.panels) : c.Lawful := by
  refine (Board.Eases.of_same (fun k => ?_) hz hd hp).lawful h
  rw [Board.zoneOf, hps, ← Board.zoneOf]

variable (b)

theorem Board.oweZone_eases (z : ZoneId) : b.Eases (b.oweZone z) := by
  refine ⟨List.Sublist.refl _, fun _ => rfl, fun y => ?_, rfl⟩
  by_cases h : y = z
  · subst h
    exact .inr (b.zone_oweZone_self y)
  · exact .inl (b.zone_oweZone_of_ne h)

/-- A zone function that at most owes eases the board. -/
theorem Board.mapZones_eases {f : Zone → Zone} (hf : ∀ z : Zone, z.Owing (f z)) :
    b.Eases { b with zones := b.zones.map f } := by
  refine ⟨List.Sublist.refl _, fun _ => rfl, fun z => ?_, rfl⟩
  rw [Board.zone, Board.zone, get_zones_map]
  exact hf _

/-! ### The choice of work (R97, R105 to R107) -/

theorem Board.takeDirty_eases : b.Eases b.takeDirty := by
  unfold Board.takeDirty
  split
  · rename_i k rest h
    refine ⟨?_, fun _ => rfl, fun _ => .inl rfl, rfl⟩
    rw [h]
    exact List.sublist_cons_self k rest
  · exact .of_same (fun _ => rfl) rfl rfl rfl

theorem Board.takeAtCursor_eases (n : Nat) : b.Eases (b.takeAtCursor n) := by
  have howing := passHeld_owing (b.positions.drop n) n b.zones
  unfold Board.takeAtCursor
  split
  · rename_i zones k h
    rw [h] at howing
    exact ⟨List.Sublist.refl _, fun _ => rfl, howing, rfl⟩
  · rename_i zones h
    rw [h] at howing
    have hpassed : b.Eases { b with zones := zones, cursor := none } :=
      ⟨List.Sublist.refl _, fun _ => rfl, howing, rfl⟩
    exact hpassed.trans (Board.takeDirty_eases _)

theorem Board.chooseWork_eases : b.Eases b.chooseWork := by
  unfold Board.chooseWork
  split
  · exact b.takeDirty_eases
  · split
    · have hended : b.Eases { b with cursor := none } := .of_same (fun _ => rfl) rfl rfl rfl
      exact hended.trans (Board.takeDirty_eases _)
    · split
      · have hturn : b.Eases { b with nextSource := .cursor } := .of_same (fun _ => rfl) rfl rfl rfl
        exact hturn.trans (Board.takeDirty_eases _)
      · exact b.takeAtCursor_eases _

/-! ### Requests and flashes (R102 to R104, R108) -/

theorem Board.startRepaint_eases : b.Eases b.startRepaint :=
  .of_same (fun _ => rfl) rfl rfl rfl

theorem Board.requestRepaint_eases : b.Eases b.requestRepaint := by
  unfold Board.requestRepaint
  split
  · exact .of_same (fun _ => rfl) rfl rfl rfl
  · exact b.startRepaint_eases

theorem Board.requestBlank_eases : b.Eases b.requestBlank := by
  unfold Board.requestBlank
  split
  · exact .refl b
  · exact .of_same (fun _ => rfl) rfl rfl rfl

@[simp] theorem Board.zoneOf_setFlash (k : Nat) (on : Bool) (j : Nat) : (b.setFlash k on).zoneOf j = b.zoneOf j := by
  simp only [Board.zoneOf, Board.setFlash_positions, List.getElem?_modify]
  by_cases h : k = j
  · simp [h, Function.comp_def]
  · simp [h]

theorem Board.setFlash_eases (k : Nat) (on : Bool) : b.Eases (b.setFlash k on) :=
  .of_same (b.zoneOf_setFlash k on) rfl rfl rfl

/-- Positions rewritten with their zones kept. -/
theorem Board.zoneOf_map {f : Position → Position} (hf : ∀ q, (f q).zone = q.zone) (hc : c.positions = b.positions.map f)
    (k : Nat) : c.zoneOf k = b.zoneOf k := by
  simp [Board.zoneOf, hc, Function.comp_def, hf]

theorem Board.startFlash_eases (i : Nat) : b.Eases (b.startFlash i) := by
  refine .of_same (b.zoneOf_map (fun q => ?_) rfl) rfl rfl rfl
  split <;> rfl

/-! ### Marks (R99, R110, R113) -/

variable {b}

/-- R99: a mark adds a position at most, one that is not yet in the Dirty Queue and whose zone is not protected. -/
theorem Board.Lawful.mark (h : b.Lawful) (k : Nat) : (b.mark k).Lawful := by
  obtain ⟨zs, d, hmark, hzs, hd⟩ := b.mark_spec k
  have hzones : b.Eases { b with zones := zs } := by
    rcases hzs with rfl | ⟨z, -, -, rfl⟩
    · exact .refl b
    · exact b.oweZone_eases z
  rw [hmark]
  rcases hd with rfl | ⟨z, hzk, hp, hk, rfl⟩
  · exact hzones.lawful h
  · obtain ⟨⟨hnodup, hmem⟩, hfixed, hpanels⟩ := hzones.lawful h
    refine ⟨⟨?_, fun j hj => ?_⟩, hfixed, hpanels⟩
    · exact List.nodup_append_comm.mp (List.nodup_cons.mpr ⟨hk, hnodup⟩)
    · rcases List.mem_append.mp hj with hj | hj
      · exact hmem j hj
      · rw [List.mem_singleton.mp hj]
        exact ⟨z, hzk, (hzones.zone z).isProtected.trans hp⟩

theorem Board.Lawful.markAll (h : b.Lawful) (ks : List Nat) : (b.markAll ks).Lawful := by
  induction ks generalizing b with
  | nil => exact h
  | cons k ks ih => exact ih (h.mark k)

theorem Board.Lawful.flashExpiry (h : b.Lawful) (k : Nat) : (b.flashExpiry k).Lawful := by
  unfold Board.flashExpiry
  split
  · split
    · exact ((b.setFlash_eases k false).lawful h).mark k
    · exact h
  · exact h

/-! ### Blanks and the choice (R97, R110) -/

theorem Board.Lawful.completeBlank (h : b.Lawful) : b.completeBlank.Lawful := by
  have howing (z : Zone) : z.Owing (if z.held then z.owe else z) := by
    split
    · exact .inr rfl
    · exact .inl rfl
  have hzones := b.mapZones_eases howing
  unfold Board.completeBlank
  simp only
  split
  · exact (hzones.lawful h).of_same rfl rfl rfl rfl
  · exact (hzones.lawful h).markAll _

theorem Board.Lawful.choose (h : b.Lawful) : b.choose.Lawful := by
  have hbegun : ({ b with blankPending := false } : Board).Lawful := h.of_same rfl rfl rfl rfl
  unfold Board.choose
  split
  · split
    · exact (Board.chooseWork_eases _).lawful hbegun.completeBlank
    · exact h.of_same rfl rfl rfl rfl
  · exact b.chooseWork_eases.lawful h

/-! ### Formations and panel writes (R96 to R98, R109, R177) -/

theorem Board.Lawful.putBack (h : b.Lawful) (k : Nat) : (b.putBack k).Lawful := by
  unfold Board.putBack
  split
  · exact h
  · rename_i z hzk
    split
    · exact (b.oweZone_eases z).lawful h
    · rename_i hp
      obtain ⟨⟨hnodup, hmem⟩, hfixed, hpanels⟩ := h
      refine ⟨⟨List.nodup_cons.mpr ⟨by simp, hnodup.filter _⟩, fun j hj => ?_⟩, hfixed, hpanels⟩
      rcases List.mem_cons.mp hj with rfl | hj
      · exact ⟨z, hzk, Bool.eq_false_iff.mpr hp⟩
      · exact hmem j (List.mem_of_mem_filter hj)

theorem Board.Lawful.formed (h : b.Lawful) (k : Nat) (src : Source) (cs : List PanelCell) :
    (b.formed k src cs).Lawful := by
  unfold Board.formed
  split
  · split
    · exact (h.putBack k).choose
    · exact h.choose
  · split
    · split
      · exact ((b.oweZone_eases _).lawful h).choose
      · exact h.choose
    · exact h.of_same rfl rfl rfl rfl

theorem latchCells_sorted (key : Nat) (cs : List PanelCell) (l : List (Nat × PanelCell))
    (h : (l.map Prod.fst).Pairwise (· < ·)) : ((latchCells key cs l).map Prod.fst).Pairwise (· < ·) := by
  induction cs generalizing key l with
  | nil => exact h
  | cons c cs ih => exact ih _ _ (latchCell_sorted key c l h)

/-- A run of cells latched leaves the rest of the law alone. -/
theorem Board.Lawful.latchCells (h : b.Lawful) (key : Nat) (cs : List PanelCell) :
    ({ b with panels := latchCells key cs b.panels } : Board).Lawful :=
  ⟨h.dirty, h.fixed, latchCells_sorted key cs b.panels h.panels⟩

theorem Board.Lawful.latchPosition (h : b.Lawful) (k : Nat) (cs : List PanelCell) : (b.latchPosition k cs).Lawful := by
  unfold Board.latchPosition
  split
  · exact h.latchCells _ cs
  · exact h

theorem Board.Lawful.writeComplete (h : b.Lawful) : b.writeComplete.Lawful := by
  unfold Board.writeComplete
  split
  · exact (h.latchPosition _ _).choose
  · rename_i k _
    have hblank : (b.latchPosition k (b.blankCells k)).Lawful := h.latchPosition _ _
    simp only
    split
    · exact hblank.of_same rfl rfl rfl rfl
    · exact Board.Lawful.choose (Board.Lawful.completeBlank (hblank.of_same rfl rfl rfl rfl))
  · rename_i a _
    have hpanel := h.latchCells (panelKey a 0) (List.replicate Config.panelCells (steadyCell blankGlyph))
    simp only
    split <;> exact hpanel.of_same rfl rfl rfl rfl
  · exact h
  · exact h

/-! ### Holds (R112, R113) -/

/-- R112: the positions of the zones that become HELD leave the Dirty Queue. -/
theorem Board.Lawful.holdGroup (h : b.Lawful) (g : Nat) : (b.holdGroup g).Lawful := by
  have hzone (z : ZoneId) : (b.holdGroup g).zone z =
      if (b.zone z).group = some g then ({ b.zone z with held := true } : Zone).owe else b.zone z :=
    get_zones_map _ b.zones z
  obtain ⟨⟨hnodup, hmem⟩, hfixed, hpanels⟩ := h
  refine ⟨⟨hnodup.filter _, fun k hk => ?_⟩, fun z hz => ?_, hpanels⟩
  · obtain ⟨hk, hgroup⟩ := List.mem_filter.mp hk
    obtain ⟨z, hzk, hp⟩ := hmem k hk
    rw [hzk] at hgroup
    refine ⟨z, hzk, ?_⟩
    rw [hzone, if_neg (by simpa using hgroup)]
    exact hp
  · rw [hzone] at hz ⊢
    split at hz
    · rename_i hgroup
      rw [Zone.owe_fixed] at hz
      rw [if_pos hgroup, Zone.owe, if_pos hz]
      exact hfixed z hz
    · rename_i hgroup
      rw [if_neg hgroup]
      exact hfixed z hz

/-- What a release leaves of a zone (R113). -/
theorem Zone.release_spec (g : Nat) (z : Zone) :
    (z.release g).fixed = z.fixed ∧ (z.isProtected = false → (z.release g).isProtected = false) ∧
      (z.fixed = true → (z.release g).refreshOwed = z.refreshOwed) := by
  unfold Zone.release
  split
  · exact ⟨rfl, fun hp => by simp_all [Zone.isProtected], fun hz => if_pos hz⟩
  · exact ⟨rfl, id, fun _ => rfl⟩

theorem Board.Lawful.releaseGroup (h : b.Lawful) (g : Nat) : (b.releaseGroup g).Lawful := by
  have hzone (z : ZoneId) : (b.zones.map (Zone.release g)).get z = (b.zone z).release g := get_zones_map _ _ _
  unfold Board.releaseGroup
  simp only
  refine Board.Lawful.markAll ?_ _
  obtain ⟨⟨hnodup, hmem⟩, hfixed, hpanels⟩ := h
  refine ⟨⟨hnodup, fun k hk => ?_⟩, fun z hz => ?_, hpanels⟩
  · obtain ⟨z, hzk, hp⟩ := hmem k hk
    obtain ⟨-, hrelease, -⟩ := (b.zone z).release_spec g
    exact ⟨z, hzk, by rw [Board.zone, hzone]; exact hrelease hp⟩
  · obtain ⟨hsame, -, howed⟩ := (b.zone z).release_spec g
    rw [Board.zone, hzone] at hz ⊢
    rw [hsame] at hz
    exact (howed hz).trans (hfixed z hz)

theorem Board.Lawful.requestHold (h : b.Lawful) (group action : Nat) : (b.requestHold group action).Lawful := by
  unfold Board.requestHold
  split
  · exact h.holdGroup group
  · split
    · exact h.releaseGroup group
    · exact h

/-! ### Resets (R116, R117, R177) -/

theorem Board.dirtyLaw_of_empty (h : b.dirty = []) : b.DirtyLaw := by
  simp [Board.DirtyLaw, h]

theorem Board.Lawful.warmRestart (h : b.Lawful) : b.warmRestart.Lawful :=
  ⟨Board.dirtyLaw_of_empty rfl, h.fixed, h.panels⟩

/-- R116: at the lock no zone is HELD and none owes a refresh. -/
theorem Board.Lawful.atLock (h : b.Lawful) : b.atLock.Lawful := by
  refine ⟨Board.dirtyLaw_of_empty rfl, fun z _ => ?_, h.panels⟩
  exact congrArg Zone.refreshOwed
    (get_zones_map (fun z => { z with held := false, refreshOwed := false }) b.zones z)

/-- R116, R177: a board with its tables discarded, whatever its operation. -/
theorem Board.Lawful.discarded (h : b.Lawful) (op : BoardOp) :
    ({ Board.reset with op := op, panels := b.panels } : Board).Lawful := by
  refine ⟨Board.dirtyLaw_of_empty rfl, fun z _ => ?_, h.panels⟩
  simp [Board.zone, Board.reset, Zone.reset, Vector.get_eq_getElem]

end

end Sys2Proof.Machine
end

section
/-! SUPPORT. What the boards' law reads of a part, and the operations that leave it unread or keep it. -/

namespace Sys2Proof.Machine

/-! ### What the law reads -/

/-- All that the boards' law reads of a part. -/
structure BoardView where
  board : Board
  loader : Loader
  port : PortState

def Part.boardView (p : Part) : BoardView :=
  { board := p.board, loader := p.loader, port := p.console.port }

/-- The port of a station that is neither being loaded nor in CONFIG FAULT (R174, R177). -/
def PortState.Serving (x : PortState) : Prop :=
  x ≠ .readingImage ∧ x ≠ .configFault

theorem PortState.serving_ready : PortState.ready.Serving := ⟨nofun, nofun⟩

theorem PortState.serving_busy (age : Nat) : (PortState.busy age).Serving := ⟨nofun, nofun⟩

theorem PortState.serving_loading (c : ConsoleCommand) (n : Option Nat) (bs : List Byte) :
    (PortState.loading c n bs).Serving := ⟨nofun, nofun⟩

theorem PortState.serving_aborted : PortState.aborted.Serving := ⟨nofun, nofun⟩

/-- A change that keeps the boards' law of a running part: the load stands, and the port stays out of its states. -/
structure Part.KeepsBoard (p q : Part) : Prop where
  board : p.board.Lawful → q.board.Lawful
  loader : q.loader = p.loader
  port : p.console.port.Serving → q.console.port.Serving

section
variable {p q r : Part}

theorem Part.boardLaw_of_running (hrun : p.running = true) : p.BoardLaw ↔ p.board.Lawful ∧ p.console.port.Serving := by
  have hphase : p.loader.phase = .locked := by simpa [Part.running] using hrun
  constructor
  · rintro ⟨hdirty, hfixed, hpanels, ⟨himage, hfault⟩, -⟩
    refine ⟨⟨hdirty, hfixed, hpanels⟩, fun h => ?_, fun h => ?_⟩
    · simpa [hphase] using himage.mp h
    · simpa [hphase] using hfault.mp h
  · rintro ⟨⟨hdirty, hfixed, hpanels⟩, himage, hfault⟩
    refine ⟨hdirty, hfixed, hpanels, ⟨?_, ?_⟩, fun h => absurd h (by simp [hrun])⟩
    · simp [himage, hphase]
    · simp [hfault, hphase]

/-- R174, R177: before the lock the port stands in a state of the load. -/
theorem Part.PortLaw.not_serving (h : p.PortLaw) (hrun : p.running = false) : ¬ p.console.port.Serving := by
  rintro ⟨himage, hfault⟩
  rw [Ne, h.1, not_or] at himage
  rw [Ne, h.2] at hfault
  cases hphase : p.loader.phase with
  | header => exact himage.1 hphase
  | items => exact himage.2 hphase
  | locked => simp [Part.running, hphase] at hrun
  | fault => exact hfault hphase

theorem Part.BoardLaw.of_view (h : p.BoardLaw) (hv : q.boardView = p.boardView) : q.BoardLaw := by
  obtain ⟨hb, hl, hp⟩ := BoardView.mk.inj hv
  unfold Part.BoardLaw Part.PortLaw Part.running at h ⊢
  rw [hb, hl, hp]
  exact h

namespace Part.KeepsBoard

theorem refl (p : Part) : p.KeepsBoard p := ⟨id, rfl, id⟩

theorem trans (h : p.KeepsBoard q) (h' : q.KeepsBoard r) : p.KeepsBoard r :=
  ⟨h'.board ∘ h.board, h'.loader.trans h.loader, h'.port ∘ h.port⟩

theorem of_view (h : q.boardView = p.boardView) : p.KeepsBoard q := by
  obtain ⟨hb, hl, hp⟩ := BoardView.mk.inj h
  exact ⟨by rw [hb]; exact id, hl, by rw [hp]; exact id⟩

theorem unseen (h : p.KeepsBoard q) (hv : r.boardView = q.boardView) : p.KeepsBoard r :=
  h.trans (of_view hv)

/-- A port that comes to serve, the board and the load as they were. -/
theorem of_serving (hb : q.board = p.board) (hl : q.loader = p.loader) (hq : q.console.port.Serving) : p.KeepsBoard q :=
  ⟨by rw [hb]; exact id, hl, fun _ => hq⟩

/-- A change of the board by which it stays lawful. -/
theorem of_board {b : Board} (h : p.board.Lawful → b.Lawful) : p.KeepsBoard { p with board := b } :=
  ⟨h, rfl, id⟩

theorem boardLaw (h : p.KeepsBoard q) (hrun : p.running = true) (hp : p.BoardLaw) : q.BoardLaw := by
  have hq : q.running = true := by rw [Part.running, h.loader]; exact hrun
  obtain ⟨hb, hport⟩ := (Part.boardLaw_of_running hrun).mp hp
  exact (Part.boardLaw_of_running hq).mpr ⟨h.board hb, h.port hport⟩

end Part.KeepsBoard

end

/-! ### Operations that the law does not see -/

section
variable (p : Part)

@[simp] theorem Part.endFormation_boardView : p.endFormation.boardView = p.boardView := by
  obtain ⟨f, rib, h, -⟩ := p.endFormation_spec
  rw [h]; rfl

@[simp] theorem Part.boardRequest_boardView : p.boardRequest.boardView = p.boardView := by
  obtain ⟨f, h⟩ := p.boardRequest_spec
  rw [h]; rfl

@[simp] theorem Part.termKick_boardView (k : TerminalId) : (p.termKick k).boardView = p.boardView := by
  obtain ⟨f, x, h, -⟩ := p.termKick_spec k
  rw [h]; rfl

@[simp] theorem Part.ribbonRequest_boardView : p.ribbonRequest.boardView = p.boardView := by
  obtain ⟨f, rib, h, -⟩ := p.ribbonRequest_spec
  rw [h]; rfl

@[simp] theorem Part.onTape_boardView (g : TapeEnv → Tape → Tape) : (p.onTape g).boardView = p.boardView := by
  obtain ⟨f, rib, h, -⟩ := p.onTape_spec g
  rw [h]; rfl

@[simp] theorem Part.takeFrame_boardView : p.takeFrame.boardView = p.boardView := by
  obtain ⟨l, h, -⟩ := p.takeFrame_spec
  rw [h]; rfl

@[simp] theorem Part.offer_boardView (b : TxBody) : (p.offer b).1.boardView = p.boardView := by
  obtain ⟨u, rs, l, h, -⟩ := p.offer_spec b
  rw [h]; rfl

@[simp] theorem Part.recallTest_boardView : p.recallTest.boardView = p.boardView := by
  obtain ⟨u, rs, l, h, -⟩ := p.recallTest_spec
  rw [h]; rfl

@[simp] theorem Part.makeDoubtful_boardView (i : Nat) : (p.makeDoubtful i).boardView = p.boardView := by
  obtain ⟨u, rs, q, h, -⟩ := p.makeDoubtful_spec i
  rw [h]; rfl

@[simp] theorem Part.freeSlot_boardView (i : Nat) : (p.freeSlot i).boardView = p.boardView := by
  obtain ⟨q, h, -⟩ := p.freeSlot_spec i
  rw [h]; rfl

@[simp] theorem Part.dropReply_boardView (i : Nat) : (p.dropReply i).boardView = p.boardView := by
  obtain ⟨rs, q, h, -⟩ := p.dropReply_spec i
  rw [h]; rfl

@[simp] theorem Part.satisfyRecall_boardView (i : Nat) (before : RecallState) :
    (p.satisfyRecall i before).boardView = p.boardView := by
  obtain ⟨q, h, -⟩ := p.satisfyRecall_spec i before
  rw [h]; rfl

theorem Part.setResult_boardView (r : ResultCode) : (p.setResult r).boardView = p.boardView := rfl

@[simp] theorem Part.adoptDay_boardView (d : Day) : (p.adoptDay d).boardView = p.boardView := by
  unfold Part.adoptDay
  split <;> rfl

@[simp] theorem Part.setClock_boardView (t : TimeOfDay) (day : Option Day) :
    (p.setClock t day).boardView = p.boardView := by
  unfold Part.setClock
  simp only
  split <;> rfl

@[simp] theorem Part.clockHeard_boardView (w h m s : Nat) : (p.clockHeard w h m s).boardView = p.boardView := by
  rw [p.clockHeard_spec w h m s]; rfl

@[simp] theorem Part.checkOrigin_boardView (origin : Nat) : (p.checkOrigin origin).boardView = p.boardView := by
  obtain ⟨flags, h⟩ := p.checkOrigin_spec origin
  rw [h]; rfl

@[simp] theorem Part.offerOwn_boardView (b : TxBody) : (p.offerOwn b).boardView = p.boardView := by
  unfold Part.offerOwn
  split
  · rfl
  · exact p.offer_boardView b

@[simp] theorem Part.tapeCandidate_boardView (c : SaleContents) : (p.tapeCandidate c).boardView = p.boardView := by
  unfold Part.tapeCandidate
  split
  · exact p.onTape_boardView _
  · rfl

@[simp] theorem Part.noticeArrives_boardView (u : Nat) (text : List Byte) :
    (p.noticeArrives u text).boardView = p.boardView := by
  unfold Part.noticeArrives
  split
  · exact p.onTape_boardView _
  · rfl

/-! ### The Recall Unit (R47 to R56, R62) -/

theorem Part.paceExpiry_boardView : p.paceExpiry.boardView = p.boardView := by
  unfold Part.paceExpiry
  split
  · exact Part.recallTest_boardView _
  · rfl

theorem Part.resend_boardView (i : Nat) : (p.resend i).boardView = p.boardView := by
  unfold Part.resend
  simp only
  split <;> exact Part.offer_boardView _ _

theorem Part.waitExpiry_boardView (i : Nat) : (p.waitExpiry i).boardView = p.boardView := by
  unfold Part.waitExpiry
  split
  · split
    · rfl
    · split
      · exact p.freeSlot_boardView i
      · split
        · exact (Part.recallTest_boardView _).trans (p.resend_boardView i)
        · exact (Part.recallTest_boardView _).trans (p.freeSlot_boardView i)
  · rfl

theorem Part.queueReply_boardView (i : Nat) : (p.queueReply i).boardView = p.boardView := by
  unfold Part.queueReply
  simp only
  split <;> exact Part.offer_boardView _ _

theorem Part.holdoffExpiry_boardView (i : Nat) : (p.holdoffExpiry i).boardView = p.boardView := by
  unfold Part.holdoffExpiry
  split
  · split
    · split
      · exact p.queueReply_boardView i
      · rfl
    · rfl
  · rfl

theorem Part.suppress_boardView (i : Nat) (r : Record) : (p.suppress i r).boardView = p.boardView := by
  unfold Part.suppress
  split
  · split <;> rfl
  · split
    · split
      · split <;> rfl
      · rfl
    · rfl
  · rfl
  · rfl

theorem Part.answer_boardView (i : Nat) (r : Record) : (p.answer i r).boardView = p.boardView := by
  unfold Part.answer
  split
  · simp only
    split
    · exact Part.holdoffExpiry_boardView _ i
    · rfl
  · rfl

theorem Part.recallHeard_boardView (x : Symbol) (d : Day) : (p.recallHeard x d).boardView = p.boardView := by
  unfold Part.recallHeard
  split
  · rfl
  · split
    · rfl
    · split
      · exact (Part.answer_boardView _ _ _).trans (p.suppress_boardView _ _)
      · rfl

theorem Part.recallRestart_boardView : p.recallRestart.boardView = p.boardView := by
  obtain ⟨rs, h, -⟩ := p.foldl_setRecallState_spec (p.recalls.slots.map Slot.record)
  simp only [Part.recallRestart, h]
  rfl

/-! ### The ribbon and the terminals (R129, R132, R146 to R152) -/

theorem Part.writeLastWhole_boardView (w : Option (Nat × Nat)) : (p.writeLastWhole w).boardView = p.boardView := by
  unfold Part.writeLastWhole
  split <;> rfl

theorem Part.ribbonFormed_boardView : p.ribbonFormed.boardView = p.boardView := by
  unfold Part.ribbonFormed
  split
  · exact ((Part.endFormation_boardView _).trans (Part.ribbonRequest_boardView _)).trans
      (Part.writeLastWhole_boardView _ _)
  · rfl

theorem Part.terminalFormed_boardView : p.terminalFormed.boardView = p.boardView := by
  unfold Part.terminalFormed
  split
  · split
    · exact Part.endFormation_boardView _
    · rfl
  · rfl

theorem Part.advanceExpiry_boardView (ready : Bool) : (p.advanceExpiry ready).boardView = p.boardView := by
  unfold Part.advanceExpiry
  split
  · rfl
  · split
    · exact Part.onTape_boardView _ _
    · rfl
    · rfl
    · rfl

theorem Part.runComplete_boardView (k : TerminalId) : (p.runComplete k).boardView = p.boardView := by
  unfold Part.runComplete
  split
  · exact Part.termKick_boardView _ k
  · rfl

theorem Part.highlightExpiry_boardView (k : TerminalId) (row : Nat) :
    (p.highlightExpiry k row).boardView = p.boardView := by
  unfold Part.highlightExpiry
  split
  · rfl
  · split
    · split
      · exact Part.termKick_boardView _ k
      · rfl
    · rfl

theorem Part.keyReceived_boardView (k : TerminalId) (b : Byte) (fault : Bool) :
    (p.keyReceived k b fault).boardView = p.boardView := by
  unfold Part.keyReceived
  split
  · rfl
  · exact Part.termKick_boardView _ k

/-! ### Reads and the mask (R161, R170 to R172) -/

theorem Part.onConsole_boardView {f : Console → Console} (hf : ∀ c, (f c).port = c.port) :
    (p.onConsole f).boardView = p.boardView := by
  simp [Part.boardView, hf]

theorem Console.dataRead_port (c : Console) : c.dataRead.port = c.port := by
  unfold Console.dataRead
  split
  · rfl
  · split <;> rfl

theorem Console.flagsRead_port (c : Console) : c.flagsRead.port = c.port := by
  unfold Console.flagsRead
  split <;> rfl

theorem Console.maskWrite_port (v : Byte) (c : Console) : (c.maskWrite v).port = c.port := by
  unfold Console.maskWrite
  split <;> rfl

end

end Sys2Proof.Machine
end

section
/-! The boards' law is kept by every command (R95, R99, R100, R112, R174). -/

namespace Sys2Proof.Machine

section
variable (p : Part)

/-! ### The Board Writer's events (R96 to R98, R103) -/

theorem Part.boardKick_keepsBoard : p.KeepsBoard p.boardKick := by
  obtain ⟨f, b, h, hb⟩ := p.boardKick_spec
  rw [h]
  refine ⟨fun hp => ?_, rfl, id⟩
  rcases hb with rfl | ⟨-, rfl⟩
  · exact hp
  · exact hp.choose

theorem Part.settle_keepsBoard : p.KeepsBoard p.settle := by
  obtain ⟨f, b, ts, u, rs, l, h, hb, -⟩ := p.settle_spec
  rw [h]
  refine ⟨fun hp => ?_, rfl, id⟩
  rcases hb with rfl | ⟨-, rfl⟩
  · exact hp
  · exact hp.choose

variable {p} in
theorem Part.KeepsBoard.settle {q : Part} (h : p.KeepsBoard q) : p.KeepsBoard q.settle :=
  h.trans q.settle_keepsBoard

theorem Part.boardFormed_keepsBoard : p.KeepsBoard p.boardFormed := by
  unfold Part.boardFormed
  split
  · split
    · refine Part.KeepsBoard.unseen (.of_board fun h => h.formed _ _ _)
        ((Part.endFormation_boardView _).trans (Part.boardRequest_boardView _))
    · exact .refl p
  · exact .refl p

theorem Part.panelWriteComplete_keepsBoard : p.KeepsBoard p.panelWriteComplete := by
  unfold Part.panelWriteComplete
  split
  · exact .refl p
  · exact .refl p
  · exact Part.KeepsBoard.unseen (.of_board Board.Lawful.writeComplete) (Part.boardRequest_boardView _)

theorem Part.flashExpiry_keepsBoard (k : Nat) : p.KeepsBoard (p.flashExpiry k) := by
  unfold Part.flashExpiry
  split
  · split
    · exact Part.KeepsBoard.trans (.of_board fun h => h.flashExpiry k) (Part.boardKick_keepsBoard _)
    · exact .refl p
  · exact .refl p

theorem Part.holdArrives_keepsBoard (g a : Nat) : p.KeepsBoard (p.holdArrives g a) :=
  .of_board fun h => h.requestHold g a

/-! ### Judgement and rollovers (R6, R15, R21 to R24) -/

theorem Part.markDependents_keepsBoard (old : List Record) : p.KeepsBoard (p.markDependents old) :=
  ⟨fun h => h.markAll _, rfl, id⟩

theorem Part.applied_keepsBoard (c : Contents) (i : Nat) (r : Record) : p.KeepsBoard (p.applied c i r) := by
  unfold Part.applied
  simp only
  split
  · exact ⟨(Board.startFlash_eases _ i).lawful, rfl, id⟩
  · exact .of_view rfl

theorem Part.applyContents_keepsBoard (c : Contents) (i : Nat) (r : Record) : p.KeepsBoard (p.applyContents c i r) := by
  have happlied := p.applied_keepsBoard c i r
  cases hg : c.gate r with
  | ignored =>
    rw [Part.applyContents_of_ignored hg]
    exact .refl p
  | applied doubt =>
    cases c with
    | reply x =>
      rw [Part.applyContents_reply hg]
      exact happlied.unseen (Part.satisfyRecall_boardView _ _ _)
    | sale x | quote x | state x =>
      rw [Part.applyContents_report (fun y => Contents.noConfusion) hg]
      split
      · exact happlied.unseen (Part.makeDoubtful_boardView _ _)
      · exact happlied

theorem Part.judgeCore_keepsBoard (c : Contents) : p.KeepsBoard (p.judgeCore c) := by
  have hday : p.KeepsBoard (p.adoptDay c.day) := .of_view (p.adoptDay_boardView _)
  unfold Part.judgeCore
  split
  · simp only
    split
    · exact hday
    · split
      · exact hday
      · split
        · exact hday.trans (Part.applyContents_keepsBoard _ _ _ _)
        · exact hday
  · split
    · exact .of_view (p.makeDoubtful_boardView _)
    · exact .refl p

theorem Part.judge_keepsBoard (c : Contents) : p.KeepsBoard (p.judge c) :=
  (p.judgeCore_keepsBoard c).trans (Part.markDependents_keepsBoard _ _)

theorem Part.replyHeard_keepsBoard (c : ReplyContents) : p.KeepsBoard (p.replyHeard c) := by
  refine Part.KeepsBoard.trans ?_ (Part.judge_keepsBoard _ _)
  split
  · split
    · split
      · exact .of_view (p.dropReply_boardView _)
      · exact .refl p
    · exact .refl p
  · exact .refl p

theorem Part.rollover_keepsBoard (f : Record → Record) (x : SessionDay) : p.KeepsBoard (p.rollover f x) := by
  have hrolled : p.KeepsBoard (p.rolled f x) := .of_view rfl
  exact hrolled.trans (Part.markDependents_keepsBoard _ _)

/-! ### Session Clock and Timetable (R79 to R90, R108) -/

theorem Part.blankAtClose_keepsBoard : p.KeepsBoard p.blankAtClose := by
  unfold Part.blankAtClose
  split
  · exact .of_board p.board.requestBlank_eases.lawful
  · exact .refl p

theorem Part.openAction_keepsBoard : p.KeepsBoard p.openAction := by
  unfold Part.openAction
  split
  · exact (p.rollover_keepsBoard _ _).unseen (Part.offerOwn_boardView _ _)
  · exact .refl p

theorem Part.closeAction_keepsBoard : p.KeepsBoard p.closeAction := by
  unfold Part.closeAction
  split
  · exact ((p.rollover_keepsBoard _ _).unseen (Part.offerOwn_boardView _ _)).trans (Part.blankAtClose_keepsBoard _)
  · exact .refl p

theorem Part.sessionHeard_keepsBoard (d : Day) (phase : Nat) : p.KeepsBoard (p.sessionHeard d phase) := by
  unfold Part.sessionHeard
  split
  · exact .of_view rfl
  · exact .of_view rfl
  · split
    · exact (p.rollover_keepsBoard _ _).trans (Part.blankAtClose_keepsBoard _)
    · exact .refl p
  · split
    · exact p.rollover_keepsBoard _ _
    · exact .refl p
  · exact .refl p

theorem Part.performAction_keepsBoard (hour minute : Nat) (a : TimetableAction) :
    p.KeepsBoard (p.performAction hour minute a) := by
  refine Part.KeepsBoard.settle ?_
  cases a with
  | openSession => exact p.openAction_keepsBoard
  | closeSession => exact p.closeAction_keepsBoard
  | tapeTime => exact .of_view (p.onTape_boardView fun env => Tape.join env .routine (.tapeTime hour minute))
  | repaint => exact .of_board p.board.requestRepaint_eases.lawful
  | sendClock =>
    simp only
    split
    · exact .of_view (p.offerOwn_boardView .clock)
    · exact .refl p

theorem Part.minuteBoundary_keepsBoard (t : TimeOfDay) : p.KeepsBoard (p.minuteBoundary t) := by
  have hfold (hour minute : Nat) (es : List TimetableEntry) (q : Part) :
      q.KeepsBoard (es.foldl (fun q e => q.performAction hour minute e.action) q) := by
    induction es generalizing q with
    | nil => exact .refl q
    | cons e es ih =>
      rw [List.foldl_cons]
      exact (q.performAction_keepsBoard hour minute e.action).trans (ih _)
  exact hfold _ _ _ p

theorem Part.secondExpiry_keepsBoard : p.KeepsBoard p.secondExpiry := by
  cases h : p.clock.time with
  | none =>
    rw [Part.secondExpiry_of_unset h]
    exact .refl p
  | some t =>
    have ht : p.KeepsBoard (p.setTime t.advance) := .of_view rfl
    rw [Part.secondExpiry_of_set h]
    split
    · exact ht.trans (Part.minuteBoundary_keepsBoard _ _)
    · exact ht

/-! ### Frames heard and frames sent (R64 to R68, R74) -/

theorem Part.saleArrives_keepsBoard (c : SaleContents) : p.KeepsBoard (p.saleArrives c) :=
  ((p.judge_keepsBoard (.sale c)).trans (Part.boardKick_keepsBoard _)).unseen (Part.tapeCandidate_boardView _ c)

theorem Part.handFrame_keepsBoard (b : FrameBody) : p.KeepsBoard (p.handFrame b) := by
  cases b with
  | sale c => exact p.saleArrives_keepsBoard c
  | quote c => exact p.judge_keepsBoard (.quote c)
  | state c => exact p.judge_keepsBoard (.state c)
  | recallFor x d => exact .of_view (p.recallHeard_boardView x d)
  | reply c => exact p.replyHeard_keepsBoard c
  | notice u text => exact .of_view (p.noticeArrives_boardView u text)
  | session d phase => exact p.sessionHeard_keepsBoard d phase
  | clock w h m s => exact .of_view (p.clockHeard_boardView w h m s)
  | hold g a => exact p.holdArrives_keepsBoard g a

theorem Part.judgeFrame_keepsBoard (bytes : List Byte) : p.KeepsBoard (p.judgeFrame bytes) := by
  unfold Part.judgeFrame
  split
  · exact .refl p
  · exact ((Part.KeepsBoard.of_view (p.checkOrigin_boardView _)).trans (Part.handFrame_keepsBoard _ _)).settle

theorem Part.handOn_keepsBoard (b : TxBody) : p.KeepsBoard (p.handOn b) := by
  cases b with
  | sale c => exact p.saleArrives_keepsBoard c
  | quote c => exact p.judge_keepsBoard (.quote c)
  | state c => exact p.judge_keepsBoard (.state c)
  | notice u text => exact .of_view (p.noticeArrives_boardView u text)
  | hold g a => exact p.holdArrives_keepsBoard g a
  | recallFor i | reply i | session d phase | clock => exact .refl p

theorem Part.entryOutcome_keepsBoard (f : QueuedFrame) (sent : Bool) : p.KeepsBoard (p.entryOutcome f sent) := by
  have hand {q : Part} (hq : p.KeepsBoard q) : p.KeepsBoard (if sent then (q.handOn f.body).settle else q) := by
    split
    · exact (hq.trans (q.handOn_keepsBoard f.body)).settle
    · exact hq
  unfold Part.entryOutcome
  split
  · exact hand (.of_serving rfl rfl PortState.serving_ready)
  · split
    · exact hand (.of_view rfl)
    · exact .refl p

theorem Part.ownerOutcome_keepsBoard (f : QueuedFrame) (sent : Bool) : p.KeepsBoard (p.ownerOutcome f sent) := by
  unfold Part.ownerOutcome
  cases f.body with
  | recallFor i | reply i => exact .of_view rfl
  | session d phase | clock => exact .refl p
  | sale c | quote c | state c | notice u text | hold g a => exact p.entryOutcome_keepsBoard f sent

theorem Part.endSend_keepsBoard (sent : Bool) : p.KeepsBoard (p.endSend sent) := by
  unfold Part.endSend
  split
  · exact .refl p
  · rename_i x _
    exact (p.ownerOutcome_keepsBoard x.frame sent).unseen (Part.takeFrame_boardView _)

theorem Part.sendComplete_keepsBoard : p.KeepsBoard p.sendComplete := by
  unfold Part.sendComplete
  split
  · exact p.endSend_keepsBoard true
  · exact .refl p

theorem Part.clash_keepsBoard : p.KeepsBoard p.clash := by
  unfold Part.clash
  split
  · exact .refl p
  · split
    · exact .refl p
    · split
      · exact .of_view rfl
      · exact p.endSend_keepsBoard false

/-! ### Console (R162 to R173) -/

theorem Part.finish_keepsBoard (r : ResultCode) : p.KeepsBoard (p.finish r) :=
  .of_serving rfl rfl PortState.serving_ready

theorem Part.offerEntry_keepsBoard (b : TxBody) : p.KeepsBoard (p.offerEntry b) := by
  have hoffer : p.KeepsBoard (p.offer b).1 := .of_view (p.offer_boardView b)
  unfold Part.offerEntry
  simp only
  split
  · refine Part.KeepsBoard.unseen (hoffer.trans ?_) (Part.recallTest_boardView _)
    exact .of_serving rfl rfl (PortState.serving_busy _)
  · exact hoffer.trans (Part.finish_keepsBoard _ _)

variable {p} in
theorem Part.Answered.keepsBoard {q : Part} (h : p.Answered q) : p.KeepsBoard q := by
  cases h with
  | finished r => exact p.finish_keepsBoard r
  | offered b => exact p.offerEntry_keepsBoard b

theorem Part.judgeReadRecord_keepsBoard (bs : List Byte) : p.KeepsBoard (p.judgeReadRecord bs) := by
  unfold Part.judgeReadRecord
  split
  · exact p.finish_keepsBoard _
  · exact .of_serving rfl rfl PortState.serving_ready

theorem Part.judgeSetClock_keepsBoard (bs : List Byte) : p.KeepsBoard (p.judgeSetClock bs) := by
  unfold Part.judgeSetClock
  simp only
  split
  · refine Part.KeepsBoard.unseen ?_ (Part.recallTest_boardView _)
    exact (Part.KeepsBoard.of_view (p.setClock_boardView _ _)).trans (Part.finish_keepsBoard _ _)
  · exact p.finish_keepsBoard _

theorem Part.judgeBody_keepsBoard (c : ConsoleCommand) (bs : List Byte) : p.KeepsBoard (p.judgeBody c bs) := by
  cases c with
  | enterSale => exact (p.judgeSale_answered bs).keepsBoard
  | enterQuote => exact (p.judgeQuote_answered bs).keepsBoard
  | enterState => exact (p.judgeState_answered bs).keepsBoard
  | enterNotice => exact (p.judgeNotice_answered bs).keepsBoard
  | hold => exact (p.judgeHold_answered bs).keepsBoard
  | release => exact (p.judgeRelease_answered bs).keepsBoard
  | readRecord => exact p.judgeReadRecord_keepsBoard bs
  | setClock => exact p.judgeSetClock_keepsBoard bs
  | clearStatus | abortClear | repaint | blank | warmRestart | unknown => exact p.finish_keepsBoard _

theorem Part.dataWrite_keepsBoard (v : Byte) : p.KeepsBoard (p.dataWrite v) := by
  unfold Part.dataWrite
  split
  · split
    · exact .of_serving rfl rfl (PortState.serving_loading _ _ _)
    · exact p.finish_keepsBoard _
  · split
    · exact .of_serving rfl rfl (PortState.serving_loading _ _ _)
    · exact p.judgeBody_keepsBoard _ _
  · exact .refl p

/-- R117, R173: the boards restart with an empty Dirty Queue, and the port is READY. -/
theorem Part.warmRestart_keepsBoard : p.KeepsBoard p.warmRestart := by
  unfold Part.warmRestart
  set q : Part := p.formatterRestart.recallRestart.queueRestart
  have hq : p.KeepsBoard q := .of_view (Part.recallRestart_boardView _)
  have hboard : p.KeepsBoard { q with board := q.board.warmRestart } := hq.trans (.of_board Board.Lawful.warmRestart)
  have htape := (hboard.trans (Part.boardKick_keepsBoard _)).unseen (Part.onTape_boardView _ Tape.warmRestart)
  exact Part.KeepsBoard.settle (htape.trans (.of_serving rfl rfl PortState.serving_ready))

/-- R169: a command that asks the Board Writer for work, with its result. -/
theorem Part.boardCommand_keepsBoard {b : Board} (hb : p.board.Lawful → b.Lawful) (r : ResultCode) :
    p.KeepsBoard ((({ p with board := b } : Part).boardKick).setResult r) :=
  ((Part.KeepsBoard.of_board hb).trans (Part.boardKick_keepsBoard _)).unseen (Part.setResult_boardView _ r)

theorem Part.commandReady_keepsBoard (c : ConsoleCommand) : p.KeepsBoard (p.commandReady c) := by
  cases c with
  | warmRestart => exact p.warmRestart_keepsBoard
  | repaint => exact p.boardCommand_keepsBoard p.board.requestRepaint_eases.lawful .done
  | blank => exact p.boardCommand_keepsBoard p.board.requestBlank_eases.lawful .done
  | enterSale | enterQuote | enterState | enterNotice | hold | release | readRecord | setClock =>
    exact .of_serving rfl rfl (PortState.serving_loading _ _ _)
  | clearStatus | abortClear | unknown => exact .of_view rfl

theorem Part.commandWrite_keepsBoard (c : ConsoleCommand) : p.KeepsBoard (p.commandWrite c) := by
  unfold Part.commandWrite
  split
  · exact p.commandReady_keepsBoard c
  · exact .of_serving rfl rfl PortState.serving_aborted
  · split
    · exact .of_view rfl
    · exact p.warmRestart_keepsBoard
    · exact .of_view rfl
  · split
    · exact .of_serving rfl rfl PortState.serving_ready
    · exact .refl p
  · exact .refl p
  · exact .refl p

end

end Sys2Proof.Machine
end

section
/-! The boards' law (R95, R99, R100, R112, R174): what the load and the events of a station that does not run make of
it, and the law at every step. -/

namespace Sys2Proof.Machine

/-! ### Commands of a station that does not run (R174, R177) -/

section
variable {p q : Part}

theorem Part.commandWrite_of_not_serving (c : ConsoleCommand) (h : ¬ p.console.port.Serving) :
    p.commandWrite c = p := by
  unfold Part.commandWrite
  cases hport : p.console.port <;> simp_all [PortState.Serving]

theorem Part.dataWrite_of_not_serving (v : Byte) (h : ¬ p.console.port.Serving) : p.dataWrite v = p := by
  unfold Part.dataWrite
  cases hport : p.console.port <;> simp_all [PortState.Serving]

theorem Part.BoardLaw.whenRunning {f : Part → Part} (h : p.BoardLaw) (hf : p.KeepsBoard (f p)) :
    (p.whenRunning f).BoardLaw := by
  unfold Part.whenRunning
  split
  · exact hf.boardLaw ‹_› h
  · exact h

theorem Part.BoardLaw.lawful (h : p.BoardLaw) : p.board.Lawful := by
  obtain ⟨hdirty, hfixed, hpanels, -⟩ := h
  exact ⟨hdirty, hfixed, hpanels⟩

theorem Part.BoardLaw.portLaw (h : p.BoardLaw) : p.PortLaw := by
  obtain ⟨-, -, -, hport, -⟩ := h
  exact hport

theorem Part.BoardLaw.resting (h : p.BoardLaw) (hrun : p.running = false) : p.board.Resting := by
  obtain ⟨-, -, -, -, hresting⟩ := h
  exact hresting hrun

/-- What the console writes keeps the law: before the lock the port ignores it. -/
theorem Part.BoardLaw.of_console (h : p.BoardLaw) (hq : p.KeepsBoard q) (hoff : ¬ p.console.port.Serving → q = p) :
    q.BoardLaw := by
  cases hrun : p.running with
  | true => exact hq.boardLaw hrun h
  | false =>
    rw [hoff (h.portLaw.not_serving hrun)]
    exact h

theorem Part.BoardLaw.endOfTransmission (h : p.BoardLaw) (bytes : List Byte) : (p.endOfTransmission bytes).BoardLaw := by
  have hquiet : (p.onLine Line.becomeQuiet).BoardLaw := h.of_view rfl
  unfold Part.endOfTransmission
  split
  · exact h
  · simp only
    split
    · rename_i hjudged
      exact (Part.judgeFrame_keepsBoard _ bytes).boardLaw hjudged.1 hquiet
    · exact hquiet

/-- R177: the fault blank goes on, and no work of the Board Writer begins. -/
theorem Board.Resting.writeComplete {b : Board} (h : b.Resting) : b.writeComplete.Resting := by
  obtain ⟨hdirty, hblank, hheld, hcursor, hop⟩ := h
  unfold Board.writeComplete
  split
  · rename_i k src cs hwriting
    rw [hwriting] at hop
    exact hop.elim
  · rename_i k hblanking
    rw [hblanking] at hop
    exact hop.elim
  · simp only
    split <;> exact ⟨hdirty, hblank, hheld, hcursor, trivial⟩
  · exact ⟨hdirty, hblank, hheld, hcursor, hop⟩
  · exact ⟨hdirty, hblank, hheld, hcursor, hop⟩

/-! ### The load (R175 to R178) -/

/-- What an item of the image leaves of the board and of the port: the tables alone are written, and no FIXED zone comes
to owe a refresh. -/
structure Part.LoadsBoard (p q : Part) : Prop where
  tables : ∃ ps ls zs, q.board = { p.board with positions := ps, layouts := ls, zones := zs }
  fixed : p.board.FixedLaw → q.board.FixedLaw
  port : q.console.port = p.console.port

theorem Part.LoadsBoard.of_same (hb : q.board = p.board) (hport : q.console.port = p.console.port) : p.LoadsBoard q :=
  ⟨⟨_, _, _, hb⟩, by rw [hb]; exact id, hport⟩

theorem Part.LoadsBoard.warnIf (h : p.LoadsBoard q) (w : Bool) : p.LoadsBoard (q.warnIf w) := by
  rw [Part.warnIf_eq]
  exact ⟨h.tables, h.fixed, h.port⟩

theorem Part.takeHeader_loadsBoard (x : Settings) (w : Bool) (c : ItemCounts) (p : Part) :
    p.LoadsBoard (p.takeHeader x w c) := by
  refine Part.LoadsBoard.warnIf ?_ _
  exact .of_same rfl rfl

theorem Part.takeInstrument_loadsBoard (x : InstrumentItem) (p : Part) : p.LoadsBoard (p.takeInstrument x) := by
  unfold Part.takeInstrument
  split <;> (refine Part.LoadsBoard.warnIf ?_ _; exact .of_same rfl rfl)

theorem Part.takeLayout_loadsBoard (x : Option Layout) (p : Part) : p.LoadsBoard (p.takeLayout x) := by
  refine Part.LoadsBoard.warnIf ?_ _
  exact ⟨⟨_, _, _, rfl⟩, id, rfl⟩

/-- R95: a zone that is read owes nothing. -/
theorem Part.takeZone_loadsBoard (x : ZoneItem) (p : Part) : p.LoadsBoard (p.takeZone x) := by
  unfold Part.takeZone
  split
  · split
    · exact Part.LoadsBoard.warnIf (.of_same rfl rfl) _
    · rename_i hx _
      refine Part.LoadsBoard.warnIf ?_ _
      refine ⟨⟨_, _, _, rfl⟩, fun h z hz => ?_, rfl⟩
      by_cases hn : x.number = z.val
      · simp [Board.zone, Vector.get_eq_getElem, hn]
      · have hsame : (p.board.zones.set x.number
            { fixed := x.fixed, held := false, group := holdGroupOf x.group, refreshOwed := false } hx).get z =
            p.board.zone z := by simp [Board.zone, Vector.get_eq_getElem, hn]
        simp only [Board.zone, hsame] at hz ⊢
        exact h z hz
  · exact Part.LoadsBoard.warnIf (.of_same rfl rfl) _

theorem Part.takePosition_loadsBoard (x : PositionItem) (p : Part) : p.LoadsBoard (p.takePosition x) := by
  unfold Part.takePosition
  split
  · exact ⟨⟨_, _, _, rfl⟩, id, rfl⟩
  · exact Part.LoadsBoard.warnIf (.of_same rfl rfl) _

theorem Part.takePage_loadsBoard (n : Nat) (ss : List Symbol) (p : Part) : p.LoadsBoard (p.takePage n ss) := by
  unfold Part.takePage
  split <;> (refine Part.LoadsBoard.warnIf ?_ _; exact .of_same rfl rfl)

theorem Part.takeTimetable_loadsBoard (x : TimetableItem) (p : Part) : p.LoadsBoard (p.takeTimetable x) := by
  unfold Part.takeTimetable
  split
  · exact .of_same rfl rfl
  · exact Part.LoadsBoard.warnIf (.of_same rfl rfl) _

theorem readItem_loadsBoard {sec : ImageSection} {bs rest : List Byte} {take : Part → Part}
    (h : readItem sec bs = .got take rest) (p : Part) : p.LoadsBoard (take p) := by
  cases sec with
  | header =>
    simp only [readItem] at h
    split at h <;> cases h
    exact p.takeHeader_loadsBoard _ _ _
  | instruments =>
    simp only [readItem] at h
    split at h <;> cases h
    exact p.takeInstrument_loadsBoard _
  | layouts =>
    simp only [readItem] at h
    split at h <;> cases h
    exact p.takeLayout_loadsBoard _
  | zones =>
    simp only [readItem] at h
    split at h <;> cases h
    exact p.takeZone_loadsBoard _
  | positions =>
    simp only [readItem] at h
    split at h <;> cases h
    exact p.takePosition_loadsBoard _
  | pages =>
    simp only [readItem] at h
    split at h <;> cases h
    exact p.takePage_loadsBoard _ _
  | timetable =>
    simp only [readItem] at h
    split at h <;> cases h
    exact p.takeTimetable_loadsBoard _

/-- A station whose image is being read. -/
def Part.Reading (p : Part) : Prop :=
  p.loader.phase = .header ∨ p.loader.phase = .items

theorem Part.Reading.running (h : p.Reading) : p.running = false := by
  rcases h with h | h <;> simp [Part.running, h]

/-- R174: while the image is read the port says so. -/
theorem Part.Reading.portLaw (h : p.Reading) : p.PortLaw ↔ p.console.port = .readingImage := by
  unfold Part.PortLaw
  rcases h with h | h <;> simp +contextual [h]

/-- An item of the image keeps the law while the load goes on. -/
theorem Part.Reading.boardLaw (hp : p.Reading) (hq : q.Reading) (hl : p.LoadsBoard q) (h : p.BoardLaw) :
    q.BoardLaw := by
  obtain ⟨⟨ps, ls, zs, hboard⟩, hfixed, hport⟩ := hl
  obtain ⟨hdirty, hrest⟩ := h.resting hp.running
  refine ⟨Board.dirtyLaw_of_empty (by rw [hboard]; exact hdirty), hfixed h.lawful.fixed, ?_, ?_, fun _ => ?_⟩
  · rw [Board.PanelLaw, hboard]
    exact h.lawful.panels
  · exact hq.portLaw.mpr (hport.trans (hp.portLaw.mp h.portLaw))
  · rw [hboard]
    exact ⟨hdirty, hrest⟩

theorem Part.BoardLaw.fullReset (h : p.BoardLaw) : p.fullReset.BoardLaw := by
  obtain ⟨hdirty, hfixed, hpanels⟩ := h.lawful.discarded .idle
  exact ⟨hdirty, hfixed, hpanels, ⟨iff_of_true rfl (.inl rfl), iff_of_false nofun nofun⟩,
    fun _ => ⟨rfl, rfl, rfl, rfl, trivial⟩⟩

theorem Part.BoardLaw.configFault (h : p.BoardLaw) : p.configFault.BoardLaw := by
  obtain ⟨hdirty, hfixed, hpanels⟩ := h.lawful.discarded (.faultBlanking 0)
  exact ⟨hdirty, hfixed, hpanels, ⟨iff_of_false nofun nofun, iff_of_true rfl rfl⟩,
    fun _ => ⟨rfl, rfl, rfl, rfl, trivial⟩⟩

theorem Part.BoardLaw.itemRead (h : p.BoardLaw) (bytes : List Byte) : (p.itemRead bytes).BoardLaw := by
  unfold Part.itemRead
  split
  · exact h
  · rename_i sec hsec
    have hreading : p.Reading := Loader.phase_of_current hsec
    simp only
    split
    · exact hreading.boardLaw hreading (.of_same rfl rfl) h
    · exact h.configFault
    · rename_i take rest hitem
      set p₁ : Part := p.onLoader (Loader.consume sec _)
      have hread : p₁.Reading := hreading
      have hphase := (readItem_takesItem hitem p₁).phase
      have htaken : (take p₁).Reading := by
        rcases hphase with he | he
        · rw [Part.Reading, he]
          exact hread
        · exact .inr he
      have hconsumed : p₁.BoardLaw := hreading.boardLaw hread (.of_same rfl rfl) h
      have hlaw := hread.boardLaw htaken (readItem_loadsBoard hitem p₁) hconsumed
      exact htaken.boardLaw htaken (.of_same rfl rfl) hlaw

/-- R116, R178: the boards at the lock. -/
theorem Part.BoardLaw.startingValues (h : p.BoardLaw) : p.startingValues.BoardLaw :=
  (Part.boardLaw_of_running rfl).mpr ⟨h.lawful.atLock, PortState.serving_ready⟩

theorem Part.BoardLaw.loadCompletion (h : p.BoardLaw) (balance : Word16) : (p.loadCompletion balance).BoardLaw := by
  unfold Part.loadCompletion
  split
  · split
    · exact p.startingValues.settle_keepsBoard.boardLaw rfl h.startingValues
    · exact h.configFault
  · exact h

/-- R96, R177: a panel write completes, in a running station or in the course of the fault blank. -/
theorem Part.BoardLaw.panelWriteComplete (h : p.BoardLaw) : p.panelWriteComplete.BoardLaw := by
  cases hrun : p.running with
  | true => exact p.panelWriteComplete_keepsBoard.boardLaw hrun h
  | false =>
    unfold Part.panelWriteComplete
    split
    · exact h
    · exact h
    · obtain ⟨hdirty, hfixed, hpanels⟩ := h.lawful.writeComplete
      have hlaw : ({ p with board := p.board.writeComplete } : Part).BoardLaw :=
        ⟨hdirty, hfixed, hpanels, h.portLaw, fun _ => (h.resting hrun).writeComplete⟩
      exact hlaw.of_view (Part.boardRequest_boardView _)

end

/-! ### Every command -/

/-- Every command has a next state and keeps the boards' law. -/
theorem exec_keeps_boardLaw (c : Instr) (s : State) (h : s.part.BoardLaw) :
    ∃ t, exec c s = .next t ∧ t.part.BoardLaw := by
  have hcommand (x : ConsoleCommand) : (s.part.commandWrite x).BoardLaw :=
    h.of_console (s.part.commandWrite_keepsBoard x) (Part.commandWrite_of_not_serving x)
  have hkey (k : TerminalId) (b : Byte) (fault : Bool) : (s.part.whenRunning (Part.keyReceived k b fault)).BoardLaw :=
    h.whenRunning (.of_view (s.part.keyReceived_boardView k b fault))
  cases c with
  | fullReset => exact ⟨_, rfl, h.fullReset⟩
  | configItemRead bytes => exact ⟨_, rfl, h.itemRead bytes⟩
  | loadCompletion balance => exact ⟨_, rfl, h.loadCompletion balance⟩
  | endOfTransmission bytes => exact ⟨_, rfl, h.endOfTransmission bytes⟩
  | lineBusy => exact ⟨_, rfl, h.of_view rfl⟩
  | interframeGapExpiry | backoffExpiry => exact ⟨_, rfl, h.whenRunning (.of_view rfl)⟩
  | sendComplete => exact ⟨_, rfl, h.whenRunning s.part.sendComplete_keepsBoard⟩
  | clash => exact ⟨_, rfl, h.whenRunning s.part.clash_keepsBoard⟩
  | paceExpiry => exact ⟨_, rfl, h.whenRunning (.of_view s.part.paceExpiry_boardView)⟩
  | waitExpiry i => exact ⟨_, rfl, h.whenRunning (.of_view (s.part.waitExpiry_boardView i))⟩
  | holdoffExpiry i => exact ⟨_, rfl, h.whenRunning (.of_view (s.part.holdoffExpiry_boardView i))⟩
  | boardFormationCompletion => exact ⟨_, rfl, h.whenRunning s.part.boardFormed_keepsBoard⟩
  | ribbonFormationCompletion => exact ⟨_, rfl, h.whenRunning (.of_view s.part.ribbonFormed_boardView)⟩
  | terminalFormationCompletion => exact ⟨_, rfl, h.whenRunning (.of_view s.part.terminalFormed_boardView)⟩
  | secondTimerExpiry => exact ⟨_, rfl, h.whenRunning s.part.secondExpiry_keepsBoard⟩
  | panelWriteCompletion => exact ⟨_, rfl, h.panelWriteComplete⟩
  | flashTimerExpiry k => exact ⟨_, rfl, h.whenRunning (s.part.flashExpiry_keepsBoard k)⟩
  | advanceExpiry ready => exact ⟨_, rfl, h.of_view (s.part.advanceExpiry_boardView ready)⟩
  | outputRunCompletion k => exact ⟨_, rfl, h.of_view (s.part.runComplete_boardView k)⟩
  | highlightExpiry k row => exact ⟨_, rfl, h.whenRunning (.of_view (s.part.highlightExpiry_boardView k row))⟩
  | keyCharacter k b fault => exact ⟨_, rfl, hkey k b fault⟩
  | backspace k => exact ⟨_, rfl, hkey k backspaceCode false⟩
  | selectPage k | selectWatch k | addToWatch k | removeFromWatch k | showDetail k | unknownCommand k =>
    exact ⟨_, rfl, hkey k returnCode false⟩
  | enterSale | enterQuote | enterState | enterNotice | hold | release | readRecord | setClock | clearStatus
  | abortClear | repaint | blank | warmRestart => exact ⟨_, rfl, hcommand _⟩
  | unknownCommandCode code => exact ⟨_, rfl, hcommand _⟩
  | dataWrite v =>
    exact ⟨_, rfl, h.of_console (s.part.dataWrite_keepsBoard v) (Part.dataWrite_of_not_serving v)⟩
  | dataRead => exact ⟨_, rfl, h.of_view (s.part.onConsole_boardView Console.dataRead_port)⟩
  | flagsRead => exact ⟨_, rfl, h.of_view (s.part.onConsole_boardView Console.flagsRead_port)⟩
  | maskWrite v => exact ⟨_, rfl, h.of_view (s.part.onConsole_boardView (Console.maskWrite_port v))⟩
  | ignoredRegisterWrite v => exact ⟨_, rfl, h⟩

/-- What every command keeps, a step keeps. -/
theorem holds_after_step {P : Part → Prop} (hexec : ∀ c s, P s.part → ∃ t, exec c s = .next t ∧ P t.part) {s t : State}
    (h : P s.part) (hstep : step s = .next t) : P t.part := by
  unfold step at hstep
  split at hstep
  · cases hstep
    exact h
  · rename_i c rest _
    obtain ⟨t', ht', hlaw⟩ := hexec c { s with pending := rest } h
    rw [ht'] at hstep
    cases hstep
    exact hlaw

/-- Settles O7: every command keeps the boards' law with the port's, and so does every step. -/
theorem boardLawKept : Obligations.BoardLawKept :=
  fun _ _ h hstep => holds_after_step exec_keeps_boardLaw h hstep

end Sys2Proof.Machine
end

section
/-! The Board Writer's formations, panel writes and flashes (R96 to R99, R103). -/

namespace Sys2Proof.Machine

/-! ### The choice of work takes a position for formation, or none (R97) -/

section
variable (b : Board)

/-- An operation state that a choice with no blank pending leaves. -/
def BoardOp.Chosen (op : BoardOp) : Prop :=
  op = .idle ∨ ∃ k src, op = .forming k src

theorem Board.takeDirty_chosen : b.takeDirty.op.Chosen := by
  unfold Board.takeDirty
  split
  · exact .inr ⟨_, _, rfl⟩
  · exact .inl rfl

theorem Board.chooseWork_chosen : b.chooseWork.op.Chosen := by
  unfold Board.chooseWork Board.takeAtCursor
  split
  · exact b.takeDirty_chosen
  · split
    · exact Board.takeDirty_chosen _
    · split
      · exact Board.takeDirty_chosen _
      · split
        · exact .inr ⟨_, _, rfl⟩
        · exact Board.takeDirty_chosen _

variable {b}

theorem Board.choose_of_no_blank (h : b.blankPending = false) : b.choose = b.chooseWork := by
  simp [Board.choose, h]

/-- R97: with no blank pending, no repaint running and an empty Dirty Queue there is no work. -/
theorem Board.choose_op_of_no_work (hp : b.blankPending = false) (hc : b.cursor = none) (hd : b.dirty = []) :
    b.choose.op = .idle := by
  simp [Board.choose_of_no_blank hp, Board.chooseWork, hc, Board.takeDirty, hd]

end

/-! ### The formed cells judged (R98) -/

section
variable {p : Part} {b : Board} {k : Nat} {src : Source} {cs : List PanelCell} {q : Position}

theorem Board.zoneOf_of_position (h : b.positions[k]? = some q) : b.zoneOf k = some q.zone := by
  simp [Board.zoneOf, h]

theorem Board.withholds_of_position (h : b.positions[k]? = some q) (src : Source) :
    b.withholds k src = ((b.zone q.zone).held || ((b.zone q.zone).fixed && src == .queue)) := by
  simp [Board.withholds, Board.zoneOf_of_position h]

theorem Zone.isProtected_eq_false_iff (z : Zone) : z.isProtected = false ↔ z.fixed = false ∧ z.held = false := by
  simp [Zone.isProtected]

/-- R98: the cells of an unprotected position are written. -/
theorem Board.formed_of_unprotected (h : b.positions[k]? = some q) (hp : b.blankPending = false)
    (hz : (b.zone q.zone).isProtected = false) : b.formed k src cs = { b with op := .writing k src cs } := by
  obtain ⟨hfixed, hheld⟩ := (Zone.isProtected_eq_false_iff _).mp hz
  simp [Board.formed, hp, Board.withholds_of_position h, hfixed, hheld]

/-- R98: the cells of a HELD zone's position are withheld, its zone owing a refresh. -/
theorem Board.formed_of_held (h : b.positions[k]? = some q) (hp : b.blankPending = false)
    (hz : (b.zone q.zone).held = true) : b.formed k src cs = (b.oweZone q.zone).chooseWork := by
  rw [← Board.choose_of_no_blank (b := b.oweZone q.zone) hp]
  simp [Board.formed, hp, Board.withholds_of_position h, hz, Board.zoneOf_of_position h]

/-- R95: a zone made to owe owes still when the next work is chosen, unless it is FIXED. -/
theorem Board.chooseWork_refreshOwed {z : ZoneId} (h : (b.zone z).fixed = false) :
    ((b.oweZone z).chooseWork.zone z).refreshOwed = true := by
  obtain ⟨-, -, -, howed, -⟩ := (b.zone z).owe_spec
  refine ((b.oweZone z).chooseWork_eases.zone z).refreshOwed ?_
  rw [b.zone_oweZone_self]
  exact howed h

@[simp] theorem Board.putBack_panels (k : Nat) (b : Board) : (b.putBack k).panels = b.panels := by
  unfold Board.putBack
  split
  · rfl
  · split <;> rfl

/-- A formation that ends writes no panel: its cells are latched when the panel write completes (R96). -/
theorem Board.formed_panels (k : Nat) (src : Source) (cs : List PanelCell) (b : Board) :
    (b.formed k src cs).panels = b.panels := by
  unfold Board.formed
  split
  · split <;> simp
  · split
    · split <;> simp
    · rfl

/-- R98: a formation that the Board Writer awaits changes the board as judged, the Formatter, and by the next request
the ribbon. -/
theorem Part.boardFormed_of_forming (hf : p.formatter.forming = some (.board k, .cells cs))
    (ho : p.board.op = .forming k src) :
    ∃ f rib, p.boardFormed = { p with formatter := f, ribbon := rib, board := p.board.formed k src cs } := by
  obtain ⟨f, hrequest⟩ := ({ p with board := p.board.formed k src cs } : Part).boardRequest_spec
  obtain ⟨g, rib, hend, -⟩ :=
    ({ p with board := p.board.formed k src cs } : Part).boardRequest.endFormation_spec
  refine ⟨g, rib, ?_⟩
  simp only [Part.boardFormed, hf, ho, if_true]
  rw [hend, hrequest]

end

/-- Settles O36: the cells are judged by the zone of their position, and the Formatter's next request spares the rest. -/
theorem boardCellsWritten : Obligations.BoardCellsWritten := by
  intro s k src cs q hrun hf ho hq hp
  obtain ⟨f, rib, hformed⟩ := Part.boardFormed_of_forming hf ho
  refine ⟨_, next_whenRunning hrun hformed, rfl, rfl, rfl, rfl, rfl, rfl, s.part.board.formed_panels k src cs,
    fun hz => Board.formed_of_unprotected hq hp hz, fun hz => ?_⟩
  have hboard := Board.formed_of_held (src := src) (cs := cs) hq hp hz
  refine ⟨fun j src' cs' hop => ?_, fun hfixed => ?_⟩
  · have hchosen := (s.part.board.oweZone q.zone).chooseWork_chosen
    rw [← hboard] at hchosen
    rcases hchosen with h | ⟨_, _, h⟩ <;> exact absurd (h.symm.trans hop) nofun
  · exact (congrArg (fun b => (b.zone q.zone).refreshOwed) hboard).trans (Board.chooseWork_refreshOwed hfixed)

/-! ### Panel writes (R96) -/

section
variable {p : Part} {b : Board} {k : Nat} {src : Source} {cs : List PanelCell} {q : Position}

theorem Board.latchPosition_of_position (h : b.positions[k]? = some q) :
    b.latchPosition k cs = { b with panels := latchCells (panelKey q.panel q.firstCell) cs b.panels } := by
  simp [Board.latchPosition, h]

theorem Board.writeComplete_of_writing (h : b.op = .writing k src cs) :
    b.writeComplete = (b.latchPosition k cs).choose := by
  simp [Board.writeComplete, h]

/-- What the panels show depends on their latched cells alone. -/
theorem Board.shownCell_congr {c : Board} (h : c.panels = b.panels) (panel cell : Nat) :
    c.shownCell panel cell = b.shownCell panel cell := by
  rw [Board.shownCell, h, ← Board.shownCell]

/-- R96: the cells of a position stand on its panel from its first cell on, and the other cells show what they did. -/
theorem Board.shownCell_latchPosition (h : b.positions[k]? = some q) (cs : List PanelCell) (panel cell : Nat) :
    (b.latchPosition k cs).shownCell panel cell =
      if panelKey q.panel q.firstCell ≤ panelKey panel cell ∧
          panelKey panel cell < panelKey q.panel q.firstCell + cs.length then
        cs[panelKey panel cell - panelKey q.panel q.firstCell]?
      else b.shownCell panel cell := by
  simp only [Board.latchPosition_of_position h, Board.shownCell, find?_latchCells]
  split
  · simp [Function.comp_def]
  · rfl

/-- R96, R97: a panel write of a position that completes changes the board and the Formatter. -/
theorem Part.panelWriteComplete_of_writing (h : p.board.op = .writing k src cs) :
    ∃ f, p.panelWriteComplete = { p with formatter := f, board := (p.board.latchPosition k cs).choose } := by
  obtain ⟨f, hrequest⟩ := ({ p with board := (p.board.latchPosition k cs).choose } : Part).boardRequest_spec
  refine ⟨f, ?_⟩
  simp only [Part.panelWriteComplete, h, Board.writeComplete_of_writing h]
  exact hrequest

end

/-- Settles O39: the cells are latched, and the choice of the next work writes no panel. -/
theorem panelWriteLatches : Obligations.PanelWriteLatches := by
  intro s k src cs q ho hq
  obtain ⟨f, hwritten⟩ := Part.panelWriteComplete_of_writing ho
  refine ⟨_, next_onPart hwritten, fun panel cell => ?_, rfl, rfl, rfl, rfl, rfl, rfl, rfl, fun hp hc hd => ?_⟩
  · rw [← Board.shownCell_latchPosition hq]
    exact Board.shownCell_congr (Board.choose_panels _) panel cell
  · refine Board.choose_op_of_no_work ?_ ?_ ?_ <;> rw [Board.latchPosition_of_position hq] <;> assumption

/-! ### Marks by their cases, and flashes (R99, R103) -/

section
variable {p : Part} {b : Board} {k : Nat} {z : ZoneId} {q : Position}

theorem Board.mark_of_protected (hk : b.zoneOf k = some z) (hz : (b.zone z).isProtected = true) :
    b.mark k = b.oweZone z := by
  simp [Board.mark, hk, hz]

theorem Board.mark_zones_of_unprotected (hk : b.zoneOf k = some z) (hz : (b.zone z).isProtected = false) :
    (b.mark k).zones = b.zones := by
  obtain ⟨zs, d, hmark, rfl | ⟨y, hy, hp, -⟩, -⟩ := b.mark_spec k
  · rw [hmark]
  · obtain rfl : z = y := Option.some.inj (hk.symm.trans hy)
    exact absurd (hz.symm.trans hp) nofun

theorem Board.absorbs_iff : b.absorbs k = true ↔ ∃ c, b.cursor = some c ∧ c ≤ k := by
  unfold Board.absorbs
  cases b.cursor <;> simp

/-- R99: a running repaint absorbs the mark of a position that it has still to reach, and one that is queued stays so. -/
theorem Board.mark_of_pending (hk : b.zoneOf k = some z) (hz : (b.zone z).isProtected = false)
    (h : (∃ c, b.cursor = some c ∧ c ≤ k) ∨ k ∈ b.dirty) : b.mark k = b := by
  rw [← Board.absorbs_iff] at h
  rcases h with h | h <;> simp [Board.mark, hk, hz, h]

/-- R99: the position joins the Dirty Queue at its tail. -/
theorem Board.mark_of_unqueued (hk : b.zoneOf k = some z) (hz : (b.zone z).isProtected = false)
    (hc : ∀ c, b.cursor = some c → k < c) (hd : k ∉ b.dirty) : b.mark k = { b with dirty := b.dirty ++ [k] } := by
  have habsorbs : ¬ b.absorbs k = true := by
    rw [Board.absorbs_iff]
    rintro ⟨c, h, hle⟩
    exact Nat.not_le.mpr (hc c h) hle
  simp [Board.mark, hk, hz, habsorbs, hd]

theorem Part.boardKick_of_busy (h : p.board.op ≠ .idle) : p.boardKick = p :=
  if_neg h

/-- R103: a flash that expires is STOPPED, and its position marked. -/
theorem Board.flashExpiry_of_flashing (hq : b.positions[k]? = some q) (hf : q.flash = true) :
    b.flashExpiry k = (b.setFlash k false).mark k := by
  simp [Board.flashExpiry, hq, hf]

theorem Part.flashExpiry_of_flashing (hq : p.board.positions[k]? = some q) (hf : q.flash = true)
    (ho : p.board.op ≠ .idle) :
    p.flashExpiry k = { p with board := (p.board.setFlash k false).mark k } := by
  have hbusy : ((p.board.setFlash k false).mark k).op ≠ .idle := by
    obtain ⟨zs, d, hmark, -⟩ := (p.board.setFlash k false).mark_spec k
    rw [hmark]
    exact ho
  simp only [Part.flashExpiry, hq, hf, if_true, Board.flashExpiry_of_flashing hq hf]
  exact Part.boardKick_of_busy hbusy

end

/-- Settles O40: the mark of the position by its cases, on the board with the flash STOPPED. -/
theorem flashExpiryMarks : Obligations.FlashExpiryMarks := by
  intro s k q hrun hq hf ho
  refine ⟨_, next_whenRunning hrun (Part.flashExpiry_of_flashing hq hf ho), rfl, rfl, rfl, rfl, ?_⟩
  rw [State.withPart_part]
  dsimp only
  have hzoneOf : (s.part.board.setFlash k false).zoneOf k = some q.zone :=
    (s.part.board.zoneOf_setFlash k false k).trans (Board.zoneOf_of_position hq)
  have hpositions : (s.part.board.setFlash k false).positions = s.part.board.positions.set k { q with flash := false } :=
    modify_eq_set_of_getElem? _ hq
  obtain ⟨zs, d, hmark, -⟩ := (s.part.board.setFlash k false).mark_spec k
  refine ⟨by rw [hmark]; rfl, rfl, rfl, rfl, by rw [hmark]; rfl, by rw [hmark]; exact hpositions, fun hz => ?_,
    fun hz => ⟨?_, fun h => ?_, fun hc hd => ?_⟩⟩
  · rw [Board.mark_of_protected hzoneOf hz]
    refine ⟨rfl, fun hfixed => ?_⟩
    obtain ⟨-, -, -, howed, -⟩ := (s.part.board.zone q.zone).owe_spec
    rw [Board.zone_oweZone_self]
    exact howed hfixed
  · exact Board.mark_zones_of_unprotected hzoneOf hz
  · rw [Board.mark_of_pending hzoneOf hz h]
    rfl
  · rw [Board.mark_of_unqueued hzoneOf hz hc hd]
    rfl

end Sys2Proof.Machine
end

section
/-! The laws of the Print Pool and of the compression level (R118, R124, R140): what the Ribbon Feeder's operations
make of them. -/

namespace Sys2Proof.Machine

/-- A change of the ribbon that keeps both of its laws, and the bound of the level by itself. -/
structure Ribbon.Keeps (r r' : Ribbon) : Prop where
  pool : r.PoolLaw → r'.PoolLaw
  bound : r.level ≤ 3 → r'.level ≤ 3
  level : r.LevelLaw → r'.LevelLaw

/-! ### What the laws read -/

section
variable {r r' r'' : Ribbon}

theorem occupancyLevel_mono {m n : Nat} (h : m ≤ n) : occupancyLevel m ≤ occupancyLevel n := by
  unfold occupancyLevel
  split_ifs <;> omega

/-- R118: the slots may change places, and SALE entries may go. -/
theorem Ribbon.PoolLaw.of_perm (h : r.PoolLaw) (hs : r'.slots.Perm r.slots) (hn : r'.saleEntries ≤ r.saleEntries) :
    r'.PoolLaw := by
  obtain ⟨hperm, hsales⟩ := h
  exact ⟨hs.trans hperm, hn.trans hsales⟩

/-- R140: with the level and the lag as they were the occupancy may fall. -/
theorem Ribbon.LevelLaw.of_fewer (h : r.LevelLaw) (ho : r'.occupancy ≤ r.occupancy) (hl : r'.level = r.level)
    (ht : r'.tapeLag = r.tapeLag) : r'.LevelLaw := by
  obtain ⟨hmax, hocc, hlag⟩ := h
  rw [← hl] at hmax hocc hlag
  exact ⟨hmax, (occupancyLevel_mono ho).trans hocc, ht ▸ hlag⟩

theorem Ribbon.Keeps.refl (r : Ribbon) : r.Keeps r := ⟨id, id, id⟩

theorem Ribbon.Keeps.trans (h : r.Keeps r') (h' : r'.Keeps r'') : r.Keeps r'' :=
  ⟨h'.pool ∘ h.pool, h'.bound ∘ h.bound, h'.level ∘ h.level⟩

/-- Slots that change places, entries that are gone, and the level and the lag as they were. -/
theorem Ribbon.Keeps.of_perm (hs : r'.slots.Perm r.slots) (hn : r'.saleEntries ≤ r.saleEntries)
    (ho : r'.occupancy ≤ r.occupancy) (hl : r'.level = r.level) (ht : r'.tapeLag = r.tapeLag) : r.Keeps r' :=
  ⟨fun h => h.of_perm hs hn, hl.trans_le, fun h => h.of_fewer ho hl ht⟩

/-- The laws read the pool, the backlog, the level and the lag alone. -/
theorem Ribbon.Keeps.of_same (hf : r'.free = r.free) (hu : r'.urgent = r.urgent) (hr : r'.routine = r.routine)
    (hl : r'.level = r.level) (ht : r'.tapeLag = r.tapeLag) : r.Keeps r' :=
  .of_perm (by simp [Ribbon.slots, hf, hu, hr]) (by simp [Ribbon.saleEntries, hu, hr])
    (by simp [Ribbon.occupancy, hu, hr]) hl ht

theorem Ribbon.saleEntries_le_occupancy (r : Ribbon) : r.saleEntries ≤ r.occupancy :=
  (List.length_filter_le _ _).trans (List.length_append (as := r.urgent)).le

theorem Ribbon.slots_length (r : Ribbon) : r.slots.length = r.free.length + r.occupancy := by
  simp [Ribbon.slots, Ribbon.occupancy]

/-- R118: the free slots and the entries make up the pool. -/
theorem Ribbon.PoolLaw.free_add_occupancy (h : r.PoolLaw) : r.free.length + r.occupancy = 512 := by
  obtain ⟨hperm, -⟩ := h
  rw [← r.slots_length, hperm.length_eq, List.length_range, Config.printSlots]

end

/-! ### Entries rewritten in place -/

section
variable (r : Ribbon) (slot : Nat)

theorem Ribbon.modifyEntry_saleEntries_le {f : Entry → Entry}
    (hf : ∀ e, (f e).content.isSale = true → e.content.isSale = true) :
    (r.modifyEntry slot f).saleEntries ≤ r.saleEntries := by
  unfold Ribbon.saleEntries
  rw [Ribbon.modifyEntry_urgent, Ribbon.modifyEntry_routine, ← List.map_append, ← List.countP_eq_length_filter,
    ← List.countP_eq_length_filter, List.countP_map]
  refine List.countP_mono_left fun e _ he => ?_
  rw [Function.comp_apply] at he
  split at he
  · exact hf e he
  · exact he

theorem Ribbon.modifyEntry_keeps {f : Entry → Entry} (hslot : ∀ e, (f e).slot = e.slot)
    (hsale : ∀ e, (f e).content.isSale = true → e.content.isSale = true) : r.Keeps (r.modifyEntry slot f) :=
  .of_perm (List.Perm.of_eq (r.modifyEntry_slots slot f hslot)) (r.modifyEntry_saleEntries_le slot hsale)
    (r.modifyEntry_occupancy slot f).le rfl rfl

theorem Ribbon.setStatus_keeps (st : EntryStatus) : r.Keeps (r.setStatus slot st) :=
  r.modifyEntry_keeps slot (fun _ => rfl) fun _ => id

/-- R126: an OMITTED entry that is bound is a SALE entry no more than before. -/
theorem Ribbon.bindOmitted_keeps : r.Keeps (r.bindOmitted slot) := by
  unfold Ribbon.bindOmitted
  split
  · split
    · have hbound := r.modifyEntry_keeps slot (f := Entry.bound r.omitted) (fun _ => rfl) fun _ => nofun
      exact hbound.trans (.of_same rfl rfl rfl rfl rfl)
    · exact .refl r
  · exact .refl r

/-- R132. -/
theorem Ribbon.formed_keeps (text : List Glyph) : r.Keeps (r.formed slot text) := by
  have htext := r.modifyEntry_keeps slot (f := fun e => { e with text := some text }) (fun _ => rfl) fun _ => id
  have hstored : r.Keeps { r.modifyEntry slot fun e => { e with text := some text } with request := none } :=
    htext.trans (.of_same rfl rfl rfl rfl rfl)
  unfold Ribbon.formed
  simp only
  split
  · split
    · exact hstored.trans (.of_same rfl rfl rfl rfl rfl)
    · exact hstored
  · exact hstored

/-- R123: a sale merged into an entry takes no slot and makes no entry. -/
theorem Ribbon.mergeInto_keeps (c : SaleContents) : r.Keeps (r.mergeInto slot c) := by
  refine r.modifyEntry_keeps slot (fun e => ?_) fun e h => ?_
  · split <;> rfl
  · split at h
    · rename_i x hx
      rw [hx]
      rfl
    · exact h

end

/-! ### Entries made (R121, R124) -/

section
variable (t : Tape)

/-- R121, R124: an entry made keeps the laws, a SALE entry when more slots are free than the reserve. -/
theorem Tape.makeEntry_keeps (band : Band) {content : EntryContent}
    (h : content.isSale = true → Config.reserveSlots < t.rib.free.length) :
    t.rib.Keeps (t.makeEntry band content).rib := by
  rcases t.makeEntry_spec band content with ⟨-, hsame⟩ | ⟨-, hslots, hsales, -, hlevel⟩
  · rw [hsame]
    exact .refl _
  · refine ⟨fun hpool => ⟨hslots.trans hpool.1, ?_⟩, fun hl => (hlevel hl).1, fun hl => hlevel hl.1⟩
    rw [hsales]
    split
    · rename_i hsale
      have hfree := h hsale
      have hpart := hpool.free_add_occupancy
      have hle := t.rib.saleEntries_le_occupancy
      rw [Config.reserveSlots] at hfree
      omega
    · exact hpool.2

/-- R139. -/
theorem Tape.announce_keeps (threshold m : Nat) : t.rib.Keeps (t.announce threshold m).rib := by
  unfold Tape.announce
  split
  · exact .refl _
  · split
    · split
      · exact .refl _
      · exact (t.makeEntry_keeps .urgent (content := .late m) fun h => nomatch h).trans (.of_same rfl rfl rfl rfl rfl)
    · split
      · exact (t.makeEntry_keeps .routine (content := .current) fun h => nomatch h).trans (.of_same rfl rfl rfl rfl rfl)
      · exact .refl _

/-- R138: the lag measured may stand above the level until the recomputation that follows. -/
theorem Tape.sample_spec (env : TapeEnv) (trade : Nat) :
    (t.rib.PoolLaw → (t.sample env trade).rib.PoolLaw) ∧
      (t.rib.level ≤ 3 → (t.sample env trade).rib.level ≤ 3) := by
  unfold Tape.sample
  split
  · exact ⟨id, id⟩
  · simp only
    split
    · exact ⟨id, id⟩
    · rename_i now _
      have hannounced := Tape.announce_keeps
        { t with rib := { t.rib with countdown := env.samplePeriod, tapeLag := lagMinutes now trade } }
        env.lateThreshold (lagMinutes now trade)
      exact ⟨hannounced.pool, hannounced.bound⟩

end

/-! ### The head taken (R133) -/

section
variable (t : Tape) (env : TapeEnv)

theorem Ribbon.recomputeLevel_keeps (r : Ribbon) : r.Keeps r.recomputeLevel :=
  ⟨id, fun h => (r.recomputeLevel_levelLaw h).1, fun h => r.recomputeLevel_levelLaw h.1⟩

/-- R133: the level is recomputed after the sampling, so the laws hold again when the head stands taken. -/
theorem Tape.takeHead_keeps : t.rib.Keeps (t.takeHead env).rib := by
  unfold Tape.takeHead
  split
  · exact .of_same rfl rfl rfl rfl rfl
  · rename_i band e _
    have htaken (c : Crawl) : t.rib.Keeps { t.rib.setStatus e.slot .onRibbon with crawl := c } :=
      (t.rib.setStatus_keeps e.slot .onRibbon).trans (.of_same rfl rfl rfl rfl rfl)
    split
    · exact (htaken _).trans (Ribbon.recomputeLevel_keeps _)
    · simp only
      set t₁ : Tape := { t with rib := { t.rib.setStatus e.slot .onRibbon with crawl := .awaitingText } }
      have hplain : t.rib.Keeps t₁.rib.recomputeLevel := (htaken _).trans (Ribbon.recomputeLevel_keeps _)
      split
      · rename_i x _
        split
        · obtain ⟨hpool, hlevel⟩ := t₁.sample_spec env x.tradeTime
          have hbound (h : t.rib.level ≤ 3) := Ribbon.recomputeLevel_levelLaw _ (hlevel h)
          exact ⟨fun h => hpool ((htaken _).pool h), fun h => (hbound h).1, fun h => hbound h.1⟩
        · exact hplain
      · exact hplain

/-- R127, R133. -/
theorem Tape.join_keeps (band : Band) {content : EntryContent}
    (h : content.isSale = true → Config.reserveSlots < t.rib.free.length) :
    t.rib.Keeps (t.join env band content).rib := by
  have hmade := t.makeEntry_keeps band h
  unfold Tape.join
  simp only
  split
  · exact hmade.trans (Tape.takeHead_keeps _ _)
  · exact hmade

/-! ### Candidates and notices (R124, R125, R127) -/

theorem Tape.omitSale_keeps : t.rib.Keeps (t.omitSale env).rib := by
  unfold Tape.omitSale
  simp only
  split
  · exact .of_same rfl rfl rfl rfl rfl
  · refine Ribbon.Keeps.trans ?_ (Tape.join_keeps _ env .routine fun h => nomatch h)
    exact .of_same rfl rfl rfl rfl rfl

/-- R124: a candidate takes a slot only above the reserve. -/
theorem Tape.candidate_keeps (c : SaleContents) : t.rib.Keeps (t.candidate env c).rib := by
  unfold Tape.candidate
  simp only
  split
  · split
    · exact t.rib.mergeInto_keeps _ c
    · split
      · exact t.join_keeps env .routine fun _ => ‹_›
      · split
        · exact t.rib.mergeInto_keeps _ c
        · exact t.omitSale_keeps env
  · split
    · exact t.join_keeps env .routine fun _ => ‹_›
    · exact t.omitSale_keeps env

theorem Tape.notice_keeps (urgency : Nat) (text : List Byte) : t.rib.Keeps (t.notice env urgency text).rib := by
  unfold Tape.notice
  split
  · exact t.join_keeps env .routine fun h => nomatch h
  · exact t.join_keeps env .urgent fun h => nomatch h
  · exact .refl _

end

/-! ### The crawl (R129, R130, R135, R136) -/

section
variable (t : Tape) (r : Ribbon) (env : TapeEnv)

theorem Ribbon.onRibbon_cases {be : Band × Entry} (h : r.onRibbon = some be) :
    (be.1 = .urgent ∧ r.urgent.find? Entry.isOnRibbon = some be.2) ∨
      (be.1 = .routine ∧ r.urgent.find? Entry.isOnRibbon = none ∧ r.routine.find? Entry.isOnRibbon = some be.2) := by
  unfold Ribbon.onRibbon at h
  split at h
  · rename_i e he
    cases h
    exact .inl ⟨rfl, he⟩
  · rename_i hnone
    obtain ⟨e, he, rfl⟩ := Option.map_eq_some_iff.mp h
    exact .inr ⟨rfl, hnone, he⟩

/-- The first element of a test, taken out of its list. -/
theorem perm_cons_eraseP {α : Type} {p : α → Bool} {l : List α} {a : α} (h : l.find? p = some a) :
    l.Perm (a :: l.eraseP p) := by
  obtain ⟨ha, before, after, rfl, hbefore⟩ := List.find?_eq_some_iff_append.mp h
  have hne : ∀ b ∈ before, ¬ p b = true := fun b hb => by simpa using hbefore b hb
  rw [List.eraseP_append_right _ hne, List.eraseP_cons_of_pos ha]
  exact List.perm_middle

/-- R135: the entry leaves its band, and its slot is free. -/
theorem Ribbon.retire_keeps : r.Keeps r.retire := by
  unfold Ribbon.retire
  split
  · rename_i e h
    rcases r.onRibbon_cases h with ⟨-, hfind⟩ | ⟨hband, -⟩
    · have hgone : (r.urgent.eraseP Entry.isOnRibbon).Sublist r.urgent := List.eraseP_sublist
      refine .of_perm ?_ ?_ ?_ rfl rfl
      · have hslots := (perm_cons_eraseP hfind).map Entry.slot
        simp only [Ribbon.slots, List.cons_append]
        refine List.Perm.trans ?_ ((hslots.symm.append_left r.free).append_right _)
        simpa using List.perm_middle.symm
      · exact ((hgone.append_right _).filter _).length_le
      · exact Nat.add_le_add_right hgone.length_le _
    · cases hband
  · rename_i e h
    rcases r.onRibbon_cases h with ⟨hband, -⟩ | ⟨-, -, hfind⟩
    · cases hband
    · have hgone : (r.routine.eraseP Entry.isOnRibbon).Sublist r.routine := List.eraseP_sublist
      refine .of_perm ?_ ?_ ?_ rfl rfl
      · have hslots := (perm_cons_eraseP hfind).map Entry.slot
        simp only [Ribbon.slots, List.cons_append]
        exact List.perm_middle.symm.trans (hslots.symm.append_left _)
      · exact ((hgone.append_left _).filter _).length_le
      · exact Nat.add_le_add_left hgone.length_le _
  · exact .refl r

theorem Ribbon.suspend_keeps : r.Keeps r.suspend := by
  unfold Ribbon.suspend
  simp only
  split
  · exact (r.setStatus_keeps _ .suspended).trans (.of_same rfl rfl rfl rfl rfl)
  · exact .of_same rfl rfl rfl rfl rfl

theorem Tape.separate_keeps (sent : Nat) (suspended : Bool) : t.rib.Keeps (t.separate env sent suspended).rib := by
  have hblank : t.rib.Keeps { t.rib with strobed := some blankGlyph } := .of_same rfl rfl rfl rfl rfl
  unfold Tape.separate
  simp only
  split
  · exact .of_same rfl rfl rfl rfl rfl
  · refine Ribbon.Keeps.trans ?_ (Tape.takeHead_keeps _ env)
    split
    · exact hblank
    · exact hblank.trans (Ribbon.retire_keeps _)

theorem Tape.boundary_keeps : t.rib.Keeps (t.boundary env).rib := by
  unfold Tape.boundary
  split
  · exact t.rib.suspend_keeps
  · split
    · exact .of_same rfl rfl rfl rfl rfl
    · exact .of_same rfl rfl rfl rfl rfl
    · exact .of_same rfl rfl rfl rfl rfl
    · exact t.separate_keeps env _ _

theorem Tape.advance_keeps (base : Nat) (ready : Bool) : t.rib.Keeps (t.advance env base ready).rib := by
  unfold Tape.advance
  simp only
  split
  · refine Ribbon.Keeps.trans ?_ (Tape.boundary_keeps _ env)
    exact .of_same rfl rfl rfl rfl rfl
  · exact .of_same rfl rfl rfl rfl rfl

/-! ### Warm restart and lock (R143) -/

theorem Entry.putBack_slot (e : Entry) : e.putBack.slot = e.slot := by
  unfold Entry.putBack
  split <;> rfl

theorem Entry.putBack_content (e : Entry) : e.putBack.content = e.content := by
  unfold Entry.putBack
  split <;> rfl

/-- R143: what a field that stands through the putting back reads of a band, it reads of the band before in another
order. -/
theorem putBackBand_perm {β : Type} {g : Entry → β} (hg : ∀ e : Entry, g e.putBack = g e) (es : List Entry) :
    ((putBackBand es).map g).Perm (es.map g) := by
  have hcomp : g ∘ Entry.putBack = g := funext hg
  rw [putBackBand, List.map_append, List.map_map, hcomp, ← List.map_append]
  refine List.Perm.map g (List.perm_append_comm.trans ?_)
  exact List.filter_append_perm Entry.isWaiting es

/-- R143: an entry put back keeps its kind. -/
theorem putBackBand_countP (es : List Entry) :
    (putBackBand es).countP (fun e => e.content.isSale) = es.countP fun e => e.content.isSale := by
  have hperm := putBackBand_perm (g := fun e => e.content.isSale) (fun e => by rw [e.putBack_content]) es
  simpa [List.countP_map, Function.comp_def] using hperm.countP_eq id

theorem Tape.warmRestart_keeps : t.rib.Keeps (t.warmRestart env).rib := by
  unfold Tape.warmRestart
  refine Ribbon.Keeps.trans ?_ (Tape.takeHead_keeps _ env)
  have hslots := putBackBand_perm Entry.putBack_slot
  have hlength (es : List Entry) : (putBackBand es).length = es.length := by
    simpa using (hslots es).length_eq
  refine .of_perm ((List.Perm.append_left _ (hslots _)).append (hslots _)) ?_ ?_ rfl rfl
  · simp only [Ribbon.saleEntries, ← List.countP_eq_length_filter, List.countP_append, putBackBand_countP]
    exact le_rfl
  · simp [Ribbon.occupancy, hlength]

end

end Sys2Proof.Machine
end

section
/-! What the other blocks leave of the ribbon (0.3), and what the Formatter's requests make of it (R126). -/

namespace Sys2Proof.Machine

section
variable (p : Part)

/-! ### The Formatter and its requesters (R25, R26, R97, R126, R146) -/

theorem Request.bind_keeps (r : Request) (rib : Ribbon) : rib.Keeps (r.bind rib) := by
  cases r with
  | ribbon slot => exact rib.bindOmitted_keeps slot
  | board k | terminal k job => exact .refl rib

variable {p} in
theorem Ribbon.Keeps.endFormation {r : Ribbon} (h : r.Keeps p.ribbon) : r.Keeps p.endFormation.ribbon := by
  refine h.trans ?_
  obtain ⟨f, rib, h, rfl | ⟨x, rfl⟩⟩ := p.endFormation_spec <;> rw [h]
  · exact .refl _
  · exact x.bind_keeps p.ribbon

variable {p} in
theorem Ribbon.Keeps.ribbonRequest {r : Ribbon} (h : r.Keeps p.ribbon) : r.Keeps p.ribbonRequest.ribbon := by
  refine h.trans ?_
  have hrequest (slot : Nat) : p.ribbon.Keeps { p.ribbon with request := some slot } := .of_same rfl rfl rfl rfl rfl
  obtain ⟨f, rib, h, rfl | ⟨slot, rfl | rfl⟩⟩ := p.ribbonRequest_spec <;> rw [h]
  · exact .refl _
  · exact hrequest slot
  · exact (hrequest slot).trans (Ribbon.bindOmitted_keeps _ slot)

theorem Part.onTape_keepsRibbon {f : TapeEnv → Tape → Tape}
    (hf : ∀ (env : TapeEnv) (t : Tape), t.rib.Keeps (f env t).rib) : p.ribbon.Keeps (p.onTape f).ribbon :=
  Ribbon.Keeps.ribbonRequest (hf p.tapeEnv { rib := p.ribbon, flags := p.console.flags })

@[simp] theorem Part.boardRequest_ribbon : p.boardRequest.ribbon = p.ribbon := by
  obtain ⟨f, h⟩ := p.boardRequest_spec
  rw [h]

@[simp] theorem Part.boardKick_ribbon : p.boardKick.ribbon = p.ribbon := by
  obtain ⟨f, b, h, -⟩ := p.boardKick_spec
  rw [h]

@[simp] theorem Part.termKick_ribbon (k : TerminalId) : (p.termKick k).ribbon = p.ribbon := by
  obtain ⟨f, x, h, -⟩ := p.termKick_spec k
  rw [h]
  rfl

@[simp] theorem Part.settle_ribbon : p.settle.ribbon = p.ribbon :=
  p.settle_spares.ribbon

/-! ### The Transmit Queue and the Recall Unit (R47 to R62, R69 to R72) -/

@[simp] theorem Part.takeFrame_ribbon : p.takeFrame.ribbon = p.ribbon := by
  obtain ⟨l, h, -⟩ := p.takeFrame_spec
  rw [h]

@[simp] theorem Part.offer_ribbon (b : TxBody) : (p.offer b).1.ribbon = p.ribbon := by
  obtain ⟨u, rs, l, h, -⟩ := p.offer_spec b
  rw [h]

@[simp] theorem Part.recallTest_ribbon : p.recallTest.ribbon = p.ribbon := by
  obtain ⟨u, rs, l, h, -⟩ := p.recallTest_spec
  rw [h]

@[simp] theorem Part.freeSlot_ribbon (i : Nat) : (p.freeSlot i).ribbon = p.ribbon := by
  obtain ⟨q, h, -⟩ := p.freeSlot_spec i
  rw [h]

@[simp] theorem Part.dropReply_ribbon (i : Nat) : (p.dropReply i).ribbon = p.ribbon := by
  obtain ⟨rs, q, h, -⟩ := p.dropReply_spec i
  rw [h]

@[simp] theorem Part.makeDoubtful_ribbon (i : Nat) : (p.makeDoubtful i).ribbon = p.ribbon := by
  obtain ⟨u, rs, q, h, -⟩ := p.makeDoubtful_spec i
  rw [h]

@[simp] theorem Part.satisfyRecall_ribbon (i : Nat) (before : RecallState) :
    (p.satisfyRecall i before).ribbon = p.ribbon := by
  obtain ⟨q, h, -⟩ := p.satisfyRecall_spec i before
  rw [h]

theorem Part.paceExpiry_ribbon : p.paceExpiry.ribbon = p.ribbon := by
  unfold Part.paceExpiry
  split
  · exact Part.recallTest_ribbon _
  · rfl

@[simp] theorem Part.resend_ribbon (i : Nat) : (p.resend i).ribbon = p.ribbon := by
  unfold Part.resend
  simp only
  split <;> exact Part.offer_ribbon _ _

theorem Part.waitExpiry_ribbon (i : Nat) : (p.waitExpiry i).ribbon = p.ribbon := by
  unfold Part.waitExpiry
  split
  · split
    · rfl
    · split
      · exact p.freeSlot_ribbon i
      · split <;> simp
  · rfl

@[simp] theorem Part.queueReply_ribbon (i : Nat) : (p.queueReply i).ribbon = p.ribbon := by
  unfold Part.queueReply
  simp only
  split <;> exact Part.offer_ribbon _ _

@[simp] theorem Part.holdoffExpiry_ribbon (i : Nat) : (p.holdoffExpiry i).ribbon = p.ribbon := by
  unfold Part.holdoffExpiry
  split
  · split
    · split
      · exact p.queueReply_ribbon i
      · rfl
    · rfl
  · rfl

@[simp] theorem Part.suppress_ribbon (i : Nat) (r : Record) : (p.suppress i r).ribbon = p.ribbon := by
  unfold Part.suppress
  split
  · split <;> rfl
  · split
    · split
      · split <;> rfl
      · rfl
    · rfl
  · rfl
  · rfl

@[simp] theorem Part.answer_ribbon (i : Nat) (r : Record) : (p.answer i r).ribbon = p.ribbon := by
  unfold Part.answer
  split
  · simp only
    split
    · exact Part.holdoffExpiry_ribbon _ i
    · rfl
  · rfl

theorem Part.recallHeard_ribbon (x : Symbol) (d : Day) : (p.recallHeard x d).ribbon = p.ribbon := by
  unfold Part.recallHeard
  split
  · rfl
  · split
    · rfl
    · split
      · simp
      · rfl

@[simp] theorem Part.recallRestart_ribbon : p.recallRestart.ribbon = p.ribbon := by
  obtain ⟨rs, h, -⟩ := p.foldl_setRecallState_spec (p.recalls.slots.map Slot.record)
  simp only [Part.recallRestart, h]

/-! ### Judgement and rollovers (R6, R21 to R24) -/

@[simp] theorem Part.adoptDay_ribbon (d : Day) : (p.adoptDay d).ribbon = p.ribbon := by
  unfold Part.adoptDay
  split <;> rfl

@[simp] theorem Part.applyContents_ribbon (c : Contents) (i : Nat) (r : Record) :
    (p.applyContents c i r).ribbon = p.ribbon := by
  obtain ⟨b, happlied⟩ := p.applied_spec c i r
  have hribbon : (p.applied c i r).ribbon = p.ribbon := by rw [happlied]
  cases hg : c.gate r with
  | ignored => rw [Part.applyContents_of_ignored hg]
  | applied doubt =>
    cases c with
    | reply x => rw [Part.applyContents_reply hg, Part.satisfyRecall_ribbon, hribbon]
    | sale x | quote x | state x =>
      rw [Part.applyContents_report (fun y => Contents.noConfusion) hg]
      split
      · rw [Part.makeDoubtful_ribbon, hribbon]
      · exact hribbon

@[simp] theorem Part.judge_ribbon (c : Contents) : (p.judge c).ribbon = p.ribbon := by
  refine (Part.markDependents_spares p.records (p.judgeCore c)).ribbon.trans ?_
  unfold Part.judgeCore
  split
  · simp only
    split
    · exact p.adoptDay_ribbon _
    · split
      · exact p.adoptDay_ribbon _
      · split <;> simp
  · split
    · exact p.makeDoubtful_ribbon _
    · rfl

theorem Part.replyHeard_ribbon (c : ReplyContents) : (p.replyHeard c).ribbon = p.ribbon := by
  unfold Part.replyHeard
  rw [Part.judge_ribbon]
  split
  · split
    · split
      · exact p.dropReply_ribbon _
      · rfl
    · rfl
  · rfl

theorem Part.rollover_ribbon (f : Record → Record) (x : SessionDay) : (p.rollover f x).ribbon = p.ribbon :=
  (p.rollover_spares f x).ribbon

/-! ### Session Clock and Timetable (R79 to R90) -/

@[simp] theorem Part.setClock_ribbon (t : TimeOfDay) (day : Option Day) : (p.setClock t day).ribbon = p.ribbon := by
  unfold Part.setClock
  simp only
  split <;> rfl

theorem Part.openAction_ribbon : p.openAction.ribbon = p.ribbon := by
  unfold Part.openAction
  split
  · exact (Part.offerOwn_spares _ _).ribbon.trans (p.rollover_ribbon _ _)
  · rfl

theorem Part.closeAction_ribbon : p.closeAction.ribbon = p.ribbon := by
  unfold Part.closeAction
  split
  · exact ((Part.offerOwn_spares _ _).trans (Part.blankAtClose_spares _)).ribbon.trans (p.rollover_ribbon _ _)
  · rfl

theorem Part.sessionHeard_ribbon (d : Day) (phase : Nat) : (p.sessionHeard d phase).ribbon = p.ribbon := by
  unfold Part.sessionHeard
  split
  · rfl
  · rfl
  · split
    · exact (Part.blankAtClose_spares _).ribbon.trans (p.rollover_ribbon _ _)
    · rfl
  · split
    · exact p.rollover_ribbon _ _
    · rfl
  · rfl

theorem Part.checkOrigin_ribbon (origin : Nat) : (p.checkOrigin origin).ribbon = p.ribbon := by
  obtain ⟨flags, h⟩ := p.checkOrigin_spec origin
  rw [h]

/-! ### Boards and terminals (R96 to R103, R146 to R156) -/

theorem Part.boardFormed_keepsRibbon : p.ribbon.Keeps p.boardFormed.ribbon := by
  unfold Part.boardFormed
  split
  · split
    · refine Ribbon.Keeps.endFormation ?_
      rw [Part.boardRequest_ribbon]
      exact .refl _
    · exact .refl _
  · exact .refl _

theorem Part.terminalFormed_keepsRibbon : p.ribbon.Keeps p.terminalFormed.ribbon := by
  unfold Part.terminalFormed
  split
  · split
    · exact Ribbon.Keeps.endFormation (.refl _)
    · exact .refl _
  · exact .refl _

theorem Part.panelWriteComplete_ribbon : p.panelWriteComplete.ribbon = p.ribbon := by
  unfold Part.panelWriteComplete
  split
  · rfl
  · rfl
  · exact Part.boardRequest_ribbon _

theorem Part.flashExpiry_ribbon (k : Nat) : (p.flashExpiry k).ribbon = p.ribbon := by
  unfold Part.flashExpiry
  split
  · split
    · exact Part.boardKick_ribbon _
    · rfl
  · rfl

theorem Part.runComplete_ribbon (k : TerminalId) : (p.runComplete k).ribbon = p.ribbon := by
  unfold Part.runComplete
  split
  · exact Part.termKick_ribbon _ k
  · rfl

theorem Part.highlightExpiry_ribbon (k : TerminalId) (row : Nat) : (p.highlightExpiry k row).ribbon = p.ribbon := by
  unfold Part.highlightExpiry
  split
  · rfl
  · split
    · split
      · exact Part.termKick_ribbon _ k
      · rfl
    · rfl

theorem Part.keyReceived_ribbon (k : TerminalId) (b : Byte) (fault : Bool) :
    (p.keyReceived k b fault).ribbon = p.ribbon := by
  unfold Part.keyReceived
  split
  · rfl
  · exact Part.termKick_ribbon _ k

/-! ### Console (R162 to R173) -/

theorem Part.offerEntry_ribbon (b : TxBody) : (p.offerEntry b).ribbon = p.ribbon := by
  unfold Part.offerEntry
  simp only
  split <;> simp

variable {p} in
theorem Part.Answered.ribbon {q : Part} (h : p.Answered q) : q.ribbon = p.ribbon := by
  cases h with
  | finished r => rfl
  | offered b => exact p.offerEntry_ribbon b

theorem Part.judgeReadRecord_ribbon (bs : List Byte) : (p.judgeReadRecord bs).ribbon = p.ribbon := by
  unfold Part.judgeReadRecord
  split <;> rfl

theorem Part.judgeSetClock_ribbon (bs : List Byte) : (p.judgeSetClock bs).ribbon = p.ribbon := by
  unfold Part.judgeSetClock
  simp only
  split <;> simp

theorem Part.judgeBody_ribbon (c : ConsoleCommand) (bs : List Byte) : (p.judgeBody c bs).ribbon = p.ribbon := by
  cases c with
  | enterSale => exact (p.judgeSale_answered bs).ribbon
  | enterQuote => exact (p.judgeQuote_answered bs).ribbon
  | enterState => exact (p.judgeState_answered bs).ribbon
  | enterNotice => exact (p.judgeNotice_answered bs).ribbon
  | hold => exact (p.judgeHold_answered bs).ribbon
  | release => exact (p.judgeRelease_answered bs).ribbon
  | readRecord => exact p.judgeReadRecord_ribbon bs
  | setClock => exact p.judgeSetClock_ribbon bs
  | clearStatus | abortClear | repaint | blank | warmRestart | unknown => rfl

theorem Part.dataWrite_ribbon (v : Byte) : (p.dataWrite v).ribbon = p.ribbon := by
  unfold Part.dataWrite
  split
  · split <;> rfl
  · split
    · rfl
    · exact p.judgeBody_ribbon _ _
  · rfl

/-! ### Items of the image (R176) -/

theorem Part.warnIf_ribbon (w : Bool) : (p.warnIf w).ribbon = p.ribbon := by
  rw [Part.warnIf_eq]

theorem Part.takeInstrument_ribbon (x : InstrumentItem) : (p.takeInstrument x).ribbon = p.ribbon := by
  unfold Part.takeInstrument
  split <;> exact Part.warnIf_ribbon _ _

theorem Part.takeZone_ribbon (x : ZoneItem) : (p.takeZone x).ribbon = p.ribbon := by
  unfold Part.takeZone
  split
  · split <;> exact Part.warnIf_ribbon _ _
  · exact Part.warnIf_ribbon _ _

theorem Part.takePosition_ribbon (x : PositionItem) : (p.takePosition x).ribbon = p.ribbon := by
  unfold Part.takePosition
  split
  · rfl
  · exact Part.warnIf_ribbon _ _

theorem Part.takePage_ribbon (n : Nat) (ss : List Symbol) : (p.takePage n ss).ribbon = p.ribbon := by
  unfold Part.takePage
  split <;> exact Part.warnIf_ribbon _ _

theorem Part.takeTimetable_ribbon (x : TimetableItem) : (p.takeTimetable x).ribbon = p.ribbon := by
  unfold Part.takeTimetable
  split
  · rfl
  · exact Part.warnIf_ribbon _ _

end

theorem readItem_ribbon {sec : ImageSection} {bs rest : List Byte} {take : Part → Part}
    (h : readItem sec bs = .got take rest) (p : Part) : (take p).ribbon = p.ribbon := by
  cases sec with
  | header =>
    simp only [readItem] at h
    split at h <;> cases h
    exact Part.warnIf_ribbon _ _
  | instruments =>
    simp only [readItem] at h
    split at h <;> cases h
    exact p.takeInstrument_ribbon _
  | layouts =>
    simp only [readItem] at h
    split at h <;> cases h
    exact Part.warnIf_ribbon _ _
  | zones =>
    simp only [readItem] at h
    split at h <;> cases h
    exact p.takeZone_ribbon _
  | positions =>
    simp only [readItem] at h
    split at h <;> cases h
    exact p.takePosition_ribbon _
  | pages =>
    simp only [readItem] at h
    split at h <;> cases h
    exact p.takePage_ribbon _ _
  | timetable =>
    simp only [readItem] at h
    split at h <;> cases h
    exact p.takeTimetable_ribbon _

end Sys2Proof.Machine
end

section
/-! The laws of the Print Pool and of the compression level (R118, R124, R140) at reset and at every step. -/

namespace Sys2Proof.Machine

/-! ### Values after a reset and at the lock (R143, R177) -/

/-- The ribbon after a reset, its advance timer and sample countdown as the lock or CONFIG FAULT set them. -/
def Ribbon.fresh (advance : Option Nat) (countdown : Nat) : Ribbon :=
  { Ribbon.reset with advance := advance, countdown := countdown }

theorem Ribbon.reset_eq_fresh : Ribbon.reset = .fresh none 1 := by
  simp only [Ribbon.fresh, Ribbon.reset]

/-- R143: with every slot free, an empty backlog and no lag the ribbon meets both laws. -/
theorem Ribbon.fresh_laws (advance : Option Nat) (countdown : Nat) :
    (Ribbon.fresh advance countdown).PoolLaw ∧ (Ribbon.fresh advance countdown).LevelLaw := by
  have hslots : (Ribbon.fresh advance countdown).slots = List.range Config.printSlots := by
    simp only [Ribbon.slots, Ribbon.fresh, Ribbon.reset, List.map_nil, List.append_nil, Config.printSlots]
  exact ⟨⟨List.Perm.of_eq hslots, Nat.zero_le 480⟩, Nat.zero_le 3, Nat.zero_le 0, Nat.zero_le 0⟩

/-- A ribbon that starts anew meets the laws, whatever it was before. -/
theorem Ribbon.keeps_fresh (r : Ribbon) (advance : Option Nat) (countdown : Nat) :
    r.Keeps (.fresh advance countdown) := by
  obtain ⟨hpool, hlevel⟩ := Ribbon.fresh_laws advance countdown
  exact ⟨fun _ => hpool, fun _ => Nat.zero_le 3, fun _ => hlevel⟩

section
variable (p : Part)

/-! ### Sales, notices and the Timetable (R66, R86, R122, R127) -/

theorem Part.tapeCandidate_keepsRibbon (c : SaleContents) : p.ribbon.Keeps (p.tapeCandidate c).ribbon := by
  unfold Part.tapeCandidate
  split
  · exact p.onTape_keepsRibbon fun env t => t.candidate_keeps env c
  · exact .refl _

theorem Part.saleArrives_keepsRibbon (c : SaleContents) : p.ribbon.Keeps (p.saleArrives c).ribbon := by
  have h := Part.tapeCandidate_keepsRibbon (p.judge (.sale c)).boardKick c
  rwa [Part.boardKick_ribbon, Part.judge_ribbon] at h

theorem Part.noticeArrives_keepsRibbon (u : Nat) (text : List Byte) :
    p.ribbon.Keeps (p.noticeArrives u text).ribbon := by
  unfold Part.noticeArrives
  split
  · exact p.onTape_keepsRibbon fun env t => t.notice_keeps env u text
  · exact .refl _

theorem Part.performAction_keepsRibbon (hour minute : Nat) (a : TimetableAction) :
    p.ribbon.Keeps (p.performAction hour minute a).ribbon := by
  unfold Part.performAction
  rw [Part.settle_ribbon]
  cases a with
  | openSession => exact p.openAction_ribbon ▸ .refl _
  | closeSession => exact p.closeAction_ribbon ▸ .refl _
  | tapeTime =>
    exact p.onTape_keepsRibbon fun env t => t.join_keeps env .routine (content := .tapeTime hour minute) fun h => nomatch h
  | repaint => exact .refl _
  | sendClock => exact p.sendClock_spares.ribbon ▸ .refl _

theorem Part.minuteBoundary_keepsRibbon (t : TimeOfDay) : p.ribbon.Keeps (p.minuteBoundary t).ribbon := by
  have hfold (hour minute : Nat) (es : List TimetableEntry) (q : Part) :
      q.ribbon.Keeps (es.foldl (fun q e => q.performAction hour minute e.action) q).ribbon := by
    induction es generalizing q with
    | nil => exact .refl _
    | cons e es ih =>
      rw [List.foldl_cons]
      exact (q.performAction_keepsRibbon hour minute e.action).trans (ih _)
  exact hfold _ _ _ p

theorem Part.secondExpiry_keepsRibbon : p.ribbon.Keeps p.secondExpiry.ribbon := by
  cases h : p.clock.time with
  | none =>
    rw [Part.secondExpiry_of_unset h]
    exact .refl _
  | some t =>
    rw [Part.secondExpiry_of_set h]
    split
    · exact Part.minuteBoundary_keepsRibbon (p.setTime t.advance) _
    · exact .refl _

/-! ### Frames heard and frames sent (R64 to R68, R74) -/

theorem Part.handFrame_keepsRibbon (b : FrameBody) : p.ribbon.Keeps (p.handFrame b).ribbon := by
  cases b with
  | sale c => exact p.saleArrives_keepsRibbon c
  | quote c => exact p.judge_ribbon (.quote c) ▸ .refl _
  | state c => exact p.judge_ribbon (.state c) ▸ .refl _
  | recallFor x d => exact p.recallHeard_ribbon x d ▸ .refl _
  | reply c => exact p.replyHeard_ribbon c ▸ .refl _
  | notice u text => exact p.noticeArrives_keepsRibbon u text
  | session d phase => exact p.sessionHeard_ribbon d phase ▸ .refl _
  | clock w h m s =>
    rw [Part.handFrame, Part.clockHeard_spec]
    exact .refl _
  | hold g a => exact .refl _

theorem Part.judgeFrame_keepsRibbon (bytes : List Byte) : p.ribbon.Keeps (p.judgeFrame bytes).ribbon := by
  unfold Part.judgeFrame
  split
  · exact .refl _
  · rename_i origin body _
    have h := Part.handFrame_keepsRibbon (p.checkOrigin origin) body
    rwa [Part.checkOrigin_ribbon, ← Part.settle_ribbon (Part.handFrame _ _)] at h

theorem Part.endOfTransmission_keepsRibbon (bytes : List Byte) :
    p.ribbon.Keeps (p.endOfTransmission bytes).ribbon := by
  unfold Part.endOfTransmission
  split
  · exact .refl _
  · simp only
    split
    · exact Part.judgeFrame_keepsRibbon (p.onLine Line.becomeQuiet) bytes
    · exact .refl _

theorem Part.handOn_keepsRibbon (b : TxBody) : p.ribbon.Keeps (p.handOn b).ribbon := by
  cases b with
  | sale c => exact p.saleArrives_keepsRibbon c
  | quote c => exact p.judge_ribbon (.quote c) ▸ .refl _
  | state c => exact p.judge_ribbon (.state c) ▸ .refl _
  | notice u text => exact p.noticeArrives_keepsRibbon u text
  | recallFor i | reply i | session d phase | clock | hold g a => exact .refl _

theorem Part.entryOutcome_keepsRibbon (f : QueuedFrame) (sent : Bool) :
    p.ribbon.Keeps (p.entryOutcome f sent).ribbon := by
  have hand {q : Part} (hq : q.ribbon = p.ribbon) :
      p.ribbon.Keeps (if sent then (q.handOn f.body).settle else q).ribbon := by
    rw [← hq]
    split
    · rw [Part.settle_ribbon]
      exact q.handOn_keepsRibbon f.body
    · exact .refl _
  unfold Part.entryOutcome
  split
  · exact hand rfl
  · split
    · exact hand rfl
    · exact .refl _

theorem Part.ownerOutcome_keepsRibbon (f : QueuedFrame) (sent : Bool) :
    p.ribbon.Keeps (p.ownerOutcome f sent).ribbon := by
  unfold Part.ownerOutcome
  cases f.body with
  | recallFor i | reply i | session d phase | clock => exact .refl _
  | sale c | quote c | state c | notice u text | hold g a => exact p.entryOutcome_keepsRibbon f sent

theorem Part.endSend_keepsRibbon (sent : Bool) : p.ribbon.Keeps (p.endSend sent).ribbon := by
  unfold Part.endSend
  split
  · exact .refl _
  · rw [Part.takeFrame_ribbon]
    exact p.ownerOutcome_keepsRibbon _ sent

theorem Part.sendComplete_keepsRibbon : p.ribbon.Keeps p.sendComplete.ribbon := by
  unfold Part.sendComplete
  split
  · exact p.endSend_keepsRibbon true
  · exact .refl _

theorem Part.clash_keepsRibbon : p.ribbon.Keeps p.clash.ribbon := by
  unfold Part.clash
  split
  · exact .refl _
  · split
    · exact .refl _
    · split
      · exact .refl _
      · exact p.endSend_keepsRibbon false

/-! ### The ribbon's own events (R129, R132, R143) -/

theorem Part.ribbonFormed_keepsRibbon : p.ribbon.Keeps p.ribbonFormed.ribbon := by
  unfold Part.ribbonFormed
  split
  · rename_i slot text whole _
    refine Ribbon.Keeps.endFormation (Ribbon.Keeps.ribbonRequest ?_)
    have hformed := p.ribbon.formed_keeps slot text
    unfold Part.writeLastWhole
    split
    · exact hformed
    · exact hformed
  · exact .refl _

/-- R129, R177: the timer of a fault blank reads and writes no entry. -/
theorem Part.advanceExpiry_keepsRibbon (ready : Bool) : p.ribbon.Keeps (p.advanceExpiry ready).ribbon := by
  unfold Part.advanceExpiry
  split
  · exact .refl _
  · split
    · exact p.onTape_keepsRibbon fun env t => t.advance_keeps env p.settings.baseSpeed ready
    · exact .of_same rfl rfl rfl rfl rfl
    · exact .refl _
    · exact .refl _

theorem Part.warmRestart_keepsRibbon : p.ribbon.Keeps p.warmRestart.ribbon := by
  unfold Part.warmRestart
  simp only [Part.settle_ribbon, Part.consoleRestart_ribbon]
  refine Ribbon.Keeps.trans ?_ (Part.onTape_keepsRibbon _ fun env t => t.warmRestart_keeps env)
  simpa using Ribbon.Keeps.refl p.ribbon

theorem Part.commandReady_keepsRibbon (c : ConsoleCommand) : p.ribbon.Keeps (p.commandReady c).ribbon := by
  cases c with
  | warmRestart => exact p.warmRestart_keepsRibbon
  | repaint | blank => simpa [Part.commandReady] using Ribbon.Keeps.refl p.ribbon
  | enterSale | enterQuote | enterState | enterNotice | hold | release | readRecord | setClock | clearStatus
  | abortClear | unknown => exact .refl _

theorem Part.commandWrite_keepsRibbon (c : ConsoleCommand) : p.ribbon.Keeps (p.commandWrite c).ribbon := by
  unfold Part.commandWrite
  split
  · exact p.commandReady_keepsRibbon c
  · exact .refl _
  · split
    · exact .refl _
    · exact p.warmRestart_keepsRibbon
    · exact .refl _
  · split <;> exact .refl _
  · exact .refl _
  · exact .refl _

/-! ### The load (R175 to R178) -/

theorem Part.configFault_keepsRibbon : p.ribbon.Keeps p.configFault.ribbon :=
  p.ribbon.keeps_fresh (some Config.faultSpeed) 1

theorem Part.fullReset_keepsRibbon : p.ribbon.Keeps p.fullReset.ribbon := by
  change p.ribbon.Keeps Ribbon.reset
  rw [Ribbon.reset_eq_fresh]
  exact p.ribbon.keeps_fresh none 1

theorem Part.itemRead_keepsRibbon (bytes : List Byte) : p.ribbon.Keeps (p.itemRead bytes).ribbon := by
  unfold Part.itemRead
  split
  · exact .refl _
  · simp only
    split
    · exact .refl _
    · exact p.configFault_keepsRibbon
    · rename_i hitem
      rw [Part.onLoader_ribbon, readItem_ribbon hitem]
      exact .refl _

theorem Part.loadCompletion_keepsRibbon (balance : Word16) : p.ribbon.Keeps (p.loadCompletion balance).ribbon := by
  unfold Part.loadCompletion
  split
  · split
    · rw [Part.lock, Part.settle_ribbon]
      exact p.ribbon.keeps_fresh (some (crawlSpeed p.settings.baseSpeed 0)) p.settings.samplePeriod
    · exact p.configFault_keepsRibbon
  · exact .refl _

theorem Part.whenRunning_keepsRibbon {f : Part → Part} (hf : p.ribbon.Keeps (f p).ribbon) :
    p.ribbon.Keeps (p.whenRunning f).ribbon := by
  unfold Part.whenRunning
  split
  · exact hf
  · exact .refl _

end

/-! ### Every command -/

/-- Every command has a next state, and the ribbon keeps its laws. -/
theorem exec_keepsRibbon (c : Instr) (s : State) :
    ∃ t, exec c s = .next t ∧ s.part.ribbon.Keeps t.part.ribbon := by
  have same {q : Part} (hq : q.ribbon = s.part.ribbon) : s.part.ribbon.Keeps q.ribbon := hq ▸ .refl _
  have running {f : Part → Part} (hf : s.part.ribbon.Keeps (f s.part).ribbon) :
      s.part.ribbon.Keeps (s.part.whenRunning f).ribbon := s.part.whenRunning_keepsRibbon hf
  have key (k : TerminalId) (b : Byte) (fault : Bool) :
      s.part.ribbon.Keeps (s.part.whenRunning (Part.keyReceived k b fault)).ribbon :=
    running (same (s.part.keyReceived_ribbon k b fault))
  cases c with
  | fullReset => exact ⟨_, rfl, s.part.fullReset_keepsRibbon⟩
  | configItemRead bytes => exact ⟨_, rfl, s.part.itemRead_keepsRibbon bytes⟩
  | loadCompletion balance => exact ⟨_, rfl, s.part.loadCompletion_keepsRibbon balance⟩
  | endOfTransmission bytes => exact ⟨_, rfl, s.part.endOfTransmission_keepsRibbon bytes⟩
  | lineBusy => exact ⟨_, rfl, .refl _⟩
  | interframeGapExpiry | backoffExpiry => exact ⟨_, rfl, running (.refl _)⟩
  | sendComplete => exact ⟨_, rfl, running s.part.sendComplete_keepsRibbon⟩
  | clash => exact ⟨_, rfl, running s.part.clash_keepsRibbon⟩
  | paceExpiry => exact ⟨_, rfl, running (same s.part.paceExpiry_ribbon)⟩
  | waitExpiry i => exact ⟨_, rfl, running (same (s.part.waitExpiry_ribbon i))⟩
  | holdoffExpiry i => exact ⟨_, rfl, running (same (s.part.holdoffExpiry_ribbon i))⟩
  | boardFormationCompletion => exact ⟨_, rfl, running s.part.boardFormed_keepsRibbon⟩
  | ribbonFormationCompletion => exact ⟨_, rfl, running s.part.ribbonFormed_keepsRibbon⟩
  | terminalFormationCompletion => exact ⟨_, rfl, running s.part.terminalFormed_keepsRibbon⟩
  | secondTimerExpiry => exact ⟨_, rfl, running s.part.secondExpiry_keepsRibbon⟩
  | panelWriteCompletion => exact ⟨_, rfl, same s.part.panelWriteComplete_ribbon⟩
  | flashTimerExpiry k => exact ⟨_, rfl, running (same (s.part.flashExpiry_ribbon k))⟩
  | advanceExpiry ready => exact ⟨_, rfl, s.part.advanceExpiry_keepsRibbon ready⟩
  | outputRunCompletion k => exact ⟨_, rfl, same (s.part.runComplete_ribbon k)⟩
  | highlightExpiry k row => exact ⟨_, rfl, running (same (s.part.highlightExpiry_ribbon k row))⟩
  | keyCharacter k b fault => exact ⟨_, rfl, key k b fault⟩
  | backspace k => exact ⟨_, rfl, key k backspaceCode false⟩
  | selectPage k | selectWatch k | addToWatch k | removeFromWatch k | showDetail k | unknownCommand k =>
    exact ⟨_, rfl, key k returnCode false⟩
  | enterSale | enterQuote | enterState | enterNotice | hold | release | readRecord | setClock | clearStatus
  | abortClear | repaint | blank | warmRestart => exact ⟨_, rfl, s.part.commandWrite_keepsRibbon _⟩
  | unknownCommandCode code => exact ⟨_, rfl, s.part.commandWrite_keepsRibbon _⟩
  | dataWrite v => exact ⟨_, rfl, same (s.part.dataWrite_ribbon v)⟩
  | dataRead | flagsRead | maskWrite v | ignoredRegisterWrite v => exact ⟨_, rfl, .refl _⟩

theorem exec_keeps_poolLaw (c : Instr) (s : State) (h : s.part.ribbon.PoolLaw) :
    ∃ t, exec c s = .next t ∧ t.part.ribbon.PoolLaw := by
  obtain ⟨t, ht, hkeeps⟩ := exec_keepsRibbon c s
  exact ⟨t, ht, hkeeps.pool h⟩

theorem exec_keeps_levelLaw (c : Instr) (s : State) (h : s.part.ribbon.LevelLaw) :
    ∃ t, exec c s = .next t ∧ t.part.ribbon.LevelLaw := by
  obtain ⟨t, ht, hkeeps⟩ := exec_keepsRibbon c s
  exact ⟨t, ht, hkeeps.level h⟩

/-- Settles O4: every operation of the Ribbon Feeder moves slots between the free list and the backlog, and makes a
SALE entry only above the reserve. -/
theorem poolLawKept : Obligations.PoolLawKept :=
  fun _ _ h hstep => holds_after_step (P := fun p => p.ribbon.PoolLaw) exec_keeps_poolLaw h hstep

/-- Settles O5: the level is recomputed with every entry made and every head taken, and what leaves the backlog lowers
the occupancy alone. -/
theorem levelLawKept : Obligations.LevelLawKept :=
  fun _ _ h hstep => holds_after_step (P := fun p => p.ribbon.LevelLaw) exec_keeps_levelLaw h hstep

/-! ### The state after reset -/

/-- R116, R174: the boards rest, and the port says that the image is read. -/
theorem Part.reset_boardLaw : Part.reset.BoardLaw := by
  refine ⟨Board.dirtyLaw_of_empty rfl, fun z _ => ?_, List.Pairwise.nil,
    ⟨iff_of_true rfl (.inl rfl), iff_of_false nofun nofun⟩, fun _ => ⟨rfl, rfl, rfl, rfl, trivial⟩⟩
  have hzone : Part.reset.board.zone z = Zone.reset :=
    Vector.getElem_replicate (n := 16) (a := Zone.reset) z.isLt
  rw [hzone]
  rfl

/-- R159: a terminal at reset watches nothing and holds no key. -/
theorem Part.reset_keyLaw (k : TerminalId) : (Part.reset.terminal k).KeyLaw := by
  have hterminal : Part.reset.terminal k = Terminal.reset :=
    Vector.getElem_replicate (n := 8) (a := Terminal.reset) k.isLt
  rw [hterminal]
  exact ⟨Nat.zero_le _, List.nodup_nil, Nat.zero_le _⟩

/-- Settles O3: at reset every collection is empty, every slot free and no flag set. -/
theorem invariantsAtReset : Obligations.InvariantsAtReset := by
  have hribbon := Ribbon.fresh_laws none 1
  rw [← Ribbon.reset_eq_fresh] at hribbon
  refine ⟨hribbon.1, hribbon.2, Line.queueLaw_of_empty rfl, Part.reset_boardLaw, Part.recordLaw_of_empty rfl,
    (Part.directoryLaw_of_empty rfl rfl).recallLaw nofun, Part.reset_keyLaw, ⟨rfl, rfl⟩,
    ⟨Nat.zero_le _, Nat.zero_le _, List.Pairwise.nil⟩⟩

end Sys2Proof.Machine
end

section
/-! The text of an entry and its crawl (R129 to R136), with what the Ribbon Feeder's requests leave of the ribbon. -/

namespace Sys2Proof.Machine

/-! ### What a request leaves of the ribbon (R126, R131) -/

/-- An entry with what it holds set aside. -/
def Entry.bare (e : Entry) : Entry :=
  { e with content := .omitted none }

/-- The ribbon with what a request of the Ribbon Feeder may write set aside: the request, the omitted count and what
the entries hold. -/
def Ribbon.bare (r : Ribbon) : Ribbon :=
  { r with urgent := r.urgent.map Entry.bare, routine := r.routine.map Entry.bare, request := none, omitted := 0 }

section
variable (p : Part) (r : Ribbon)

/-- R126: the binding writes what an entry holds, and the omitted count. -/
theorem Ribbon.bindOmitted_bare (slot : Nat) : (r.bindOmitted slot).bare = r.bare := by
  have hbare : (Entry.bare ∘ fun e : Entry => if e.slot = slot then e.bound r.omitted else e) = Entry.bare := by
    funext e
    rw [Function.comp_apply]
    split <;> rfl
  cases h : r.entry slot with
  | none => simp [Ribbon.bindOmitted, h]
  | some e =>
    by_cases hu : e.content = .omitted none
    · simp [Ribbon.bindOmitted_of_unbound h hu, Ribbon.bare, hbare]
    · rw [Ribbon.bindOmitted_of_other h hu]

theorem Part.endFormation_bare : p.endFormation.ribbon.bare = p.ribbon.bare := by
  obtain ⟨f, rib, h, rfl | ⟨x, rfl⟩⟩ := p.endFormation_spec <;> rw [h]
  cases x with
  | ribbon slot => exact p.ribbon.bindOmitted_bare slot
  | board k | terminal k job => rfl

theorem Part.ribbonRequest_bare : p.ribbonRequest.ribbon.bare = p.ribbon.bare := by
  obtain ⟨f, rib, h, rfl | ⟨slot, rfl | rfl⟩⟩ := p.ribbonRequest_spec <;> rw [h]
  · rfl
  · exact Ribbon.bindOmitted_bare _ slot

theorem Part.onTape_bare (f : TapeEnv → Tape → Tape) :
    (p.onTape f).ribbon.bare = (f p.tapeEnv ⟨p.ribbon, p.console.flags⟩).rib.bare :=
  Part.ribbonRequest_bare _

/-- An operation of the Ribbon Feeder with its flags, and the ribbon that it makes but for the request. -/
theorem Part.onTape_bare_spec (g : TapeEnv → Tape → Tape) :
    ∃ f rib, p.onTape g = { p with
        formatter := f, ribbon := rib
        console := { p.console with flags := (g p.tapeEnv ⟨p.ribbon, p.console.flags⟩).flags } } ∧
      rib.bare = (g p.tapeEnv ⟨p.ribbon, p.console.flags⟩).rib.bare := by
  obtain ⟨f, rib, h, -⟩ := p.onTape_spec g
  have hbare := p.onTape_bare g
  rw [h] at hbare
  exact ⟨f, rib, h, hbare⟩

theorem Ribbon.bare_entry (slot : Nat) : r.bare.entry slot = (r.entry slot).map Entry.bare := by
  simp only [Ribbon.entry, Ribbon.bare, ← List.map_append, List.find?_map]
  rfl

theorem Ribbon.bare_onRibbon : r.bare.onRibbon = r.onRibbon.map fun be => (be.1, be.2.bare) := by
  have hfind (es : List Entry) :
      (es.map Entry.bare).find? Entry.isOnRibbon = (es.find? Entry.isOnRibbon).map Entry.bare := by
    rw [List.find?_map]
    rfl
  unfold Ribbon.onRibbon
  simp only [Ribbon.bare, hfind]
  cases r.urgent.find? Entry.isOnRibbon <;> simp [Function.comp_def]

variable {r} {r' : Ribbon} {slot : Nat}

/-- A field of an entry other than what it holds. -/
theorem Ribbon.entry_map_of_bare {β : Type} {g : Entry → β} (h : r'.bare = r.bare) (hg : ∀ e : Entry, g e.bare = g e)
    (slot : Nat) : (r'.entry slot).map g = (r.entry slot).map g := by
  have hcomp : g ∘ Entry.bare = g := funext hg
  have hentry := congrArg (fun b => (b.entry slot).map g) h
  simpa only [Ribbon.bare_entry, Option.map_map, hcomp] using hentry

end

/-! ### The formed text stored (R132, R42) -/

section
variable {p : Part} {r : Ribbon} {slot : Nat} {e : Entry} {text : List Glyph}

def Entry.withText (text : List Glyph) (e : Entry) : Entry :=
  { e with text := some text }

/-- R132: the entry that is ON RIBBON takes its text and begins to print. -/
theorem Ribbon.formed_of_onRibbon (he : r.entry slot = some e) (hs : e.status = .onRibbon)
    (hc : r.crawl = .awaitingText) :
    r.formed slot text = { r.modifyEntry slot (Entry.withText text) with request := none, crawl := .printing 0 } := by
  have hentry : (r.modifyEntry slot (Entry.withText text)).entry slot = some (e.withText text) :=
    Ribbon.modifyEntry_entry_self (f := Entry.withText text) (fun _ => rfl) he
  have hon : (e.withText text).isOnRibbon = true := beq_iff_eq.mpr hs
  unfold Ribbon.formed
  simp only
  split
  · rename_i x hx
    obtain rfl : e.withText text = x := Option.some.inj (hentry.symm.trans hx)
    exact if_pos ⟨hon, hc⟩
  · rename_i hnone
    cases hentry.symm.trans hnone

/-- R132, R42: the completion of the text of a held symbol's print, for an entry ON RIBBON. -/
theorem Part.ribbonFormed_of_forming {i whole : Nat} {x : Record}
    (hf : p.formatter.forming = some (.ribbon slot, .print text (some (i, whole)))) (hx : p.records[i]? = some x) :
    ∃ f rib, p.ribbonFormed = { p with
        formatter := f, ribbon := rib, records := p.records.set i { x with lastWhole := some whole } } ∧
      rib.bare = (p.ribbon.formed slot text).bare := by
  set q : Part := { p with
    ribbon := p.ribbon.formed slot text, records := p.records.set i { x with lastWhole := some whole } } with hq
  have hwritten : ({ p with ribbon := p.ribbon.formed slot text } : Part).writeLastWhole (some (i, whole)) = q := by
    simp only [Part.writeLastWhole, Part.modifyRecord, modify_eq_set_of_getElem? _ hx, hq]
  have hformed : p.ribbonFormed = q.ribbonRequest.endFormation := by
    simp only [Part.ribbonFormed, hf, hwritten]
  have hbare := (Part.endFormation_bare q.ribbonRequest).trans q.ribbonRequest_bare
  obtain ⟨f, rib, hrequest, -⟩ := q.ribbonRequest_spec
  obtain ⟨f', rib', hend, -⟩ := q.ribbonRequest.endFormation_spec
  refine ⟨f', rib', ?_, ?_⟩
  · rw [hformed, hend, hrequest]
  · rw [hend] at hbare
    exact hbare

end

/-- Settles O37: the stored text stands, whatever the requests that follow bind. -/
theorem ribbonTextStored : Obligations.RibbonTextStored := by
  intro s slot i whole text e r hrun hf he hs hc hr
  obtain ⟨f, rib, hformed, hbare⟩ := Part.ribbonFormed_of_forming hf hr
  rw [Ribbon.formed_of_onRibbon he hs hc] at hbare
  refine ⟨_, next_whenRunning hrun hformed, congrArg Ribbon.crawl hbare, ?_, rfl, rfl, rfl, rfl, rfl, rfl, rfl⟩
  refine (Ribbon.entry_map_of_bare (g := Entry.text) hbare (fun _ => rfl) slot).trans ?_
  exact congrArg (Option.map Entry.text) (Ribbon.modifyEntry_entry_self (f := Entry.withText text) (fun _ => rfl) he)

end Sys2Proof.Machine
end

section
/-! The crawl at an advance expiry (R129, R130, R135, R136). -/

namespace Sys2Proof.Machine

/-! ### Requests that are not made (R131) -/

section
variable {p : Part} {r : Ribbon} {t : Tape} {env : TapeEnv} {band : Band} {e : Entry} {text : List Glyph} {place : Nat}

theorem Part.ribbonRequest_of_text (h : p.ribbon.onRibbon = some (band, e)) (ht : e.text = some text) :
    p.ribbonRequest = p := by
  simp [Part.ribbonRequest, h, ht]

theorem Part.ribbonRequest_of_none (h : p.ribbon.onRibbon = none) : p.ribbonRequest = p := by
  simp [Part.ribbonRequest, h]

/-- An operation of the Ribbon Feeder that raises no flag and after which no text is wanting. -/
theorem Part.onTape_of_silent {f : TapeEnv → Tape → Tape}
    (hf : f p.tapeEnv ⟨p.ribbon, p.console.flags⟩ = ⟨r, p.console.flags⟩)
    (hrequest : ({ p with ribbon := r } : Part).ribbonRequest = { p with ribbon := r }) :
    p.onTape f = { p with ribbon := r } := by
  simp only [Part.onTape, hf]
  exact hrequest

/-! ### Character boundaries (R129, R130, R136) -/

theorem Part.advanceExpiry_of_running {v : Nat} (hrun : p.running = true) (ha : p.ribbon.advance = some v)
    (ready : Bool) :
    p.advanceExpiry ready = p.onTape fun env => Tape.advance env p.settings.baseSpeed ready := by
  have hphase : p.loader.phase = .locked := by simpa [Part.running] using hrun
  simp [Part.advanceExpiry, ha, hphase]

/-- R129: the ribbon with the advance timer started again and nothing sent. -/
def Ribbon.ticked (base : Nat) (r : Ribbon) : Ribbon :=
  { r with advance := some (min (base + 2 * r.level) 20), strobed := none }

theorem Tape.advance_of_not_ready (env : TapeEnv) (base : Nat) (t : Tape) :
    t.advance env base false = { t with rib := t.rib.ticked base } := rfl

theorem Tape.advance_of_ready (env : TapeEnv) (base : Nat) (t : Tape) :
    t.advance env base true = ({ t with rib := t.rib.ticked base } : Tape).boundary env := rfl

/-- R130: the character at the place is sent, and the crawl moves on. -/
theorem Tape.boundary_of_printing (hs : t.rib.suspensionPending = false) (hc : t.rib.crawl = .printing place)
    (h : t.rib.onRibbon = some (band, e)) (ht : e.text = some text) (hp : place < text.length) :
    t.boundary env = { t with rib := { t.rib with
      strobed := text[place]?
      crawl := if place + 1 < text.length then .printing (place + 1) else .separating 0 false } } := by
  simp [Tape.boundary, hs, hc, Ribbon.printAt, h, ht, hp]

/-- R136: the entry is set aside, and the first separator blank sent. -/
theorem Tape.boundary_of_suspension (hs : t.rib.suspensionPending = true) (h : t.rib.onRibbon = some (band, e)) :
    t.boundary env = { t with rib := { t.rib.setStatus e.slot .suspended with
      crawl := .separating 1 true, suspensionPending := false, strobed := some blankGlyph } } := by
  simp [Tape.boundary, hs, Ribbon.suspend, h]

theorem Ribbon.mem_of_onRibbon (h : r.onRibbon = some (band, e)) : e ∈ r.urgent ++ r.routine := by
  rcases r.onRibbon_cases h with ⟨-, hfind⟩ | ⟨-, -, hfind⟩
  · exact List.mem_append_left _ (List.mem_of_find?_eq_some hfind)
  · exact List.mem_append_right _ (List.mem_of_find?_eq_some hfind)

/-- The entry found in the slot of an entry of the backlog takes the status that is written there. -/
theorem Ribbon.setStatus_entry_status (st : EntryStatus) (h : e ∈ r.urgent ++ r.routine) :
    ((r.setStatus e.slot st).entry e.slot).map Entry.status = some st := by
  cases hfound : r.entry e.slot with
  | none => exact absurd (List.find?_eq_none.mp hfound e h) (by simp)
  | some x =>
    have hwritten := Ribbon.modifyEntry_entry_self (f := fun e => { e with status := st }) (fun _ => rfl) hfound
    exact congrArg (Option.map Entry.status) hwritten

/-! ### The end of an entry (R135) -/

/-- R135: the entry that is alone in the backlog ends, and the crawl is IDLE. -/
theorem Tape.boundary_of_last (hs : t.rib.suspensionPending = false) (hc : t.rib.crawl = .separating 1 false)
    (hu : t.rib.urgent = []) (hr : t.rib.routine = [e]) (he : e.status = .onRibbon) :
    t.boundary env = { t with rib := { t.rib with
      free := e.slot :: t.rib.free, routine := [], crawl := .idle, strobed := some blankGlyph } } := by
  have hon : e.isOnRibbon = true := beq_iff_eq.mpr he
  simp [Tape.boundary, hs, hc, Tape.separate, Ribbon.retire, Ribbon.onRibbon, Tape.takeHead, Ribbon.head, hu, hr, hon]

end

/-- Settles O41: the tick of the timer, the boundary by the crawl, and no request for a text that is there. -/
theorem advanceMovesCrawl : Obligations.AdvanceMovesCrawl := by
  refine ⟨fun s v place band e text hrun ha hc hon ht hp => ?_, fun s v e hrun ha hs hc hu hr he => ?_⟩ <;>
    set ticked := s.part.ribbon.ticked s.part.settings.baseSpeed
  · have hrequest {r : Ribbon} (hu : r.urgent = s.part.ribbon.urgent) (hr : r.routine = s.part.ribbon.routine) :
        ({ s.part with ribbon := r } : Part).ribbonRequest = { s.part with ribbon := r } := by
      refine Part.ribbonRequest_of_text (band := band) (e := e) ?_ ht
      simpa only [Ribbon.onRibbon, hu, hr] using hon
    refine ⟨next_onPart ?_, fun hs => next_onPart ?_, fun hs => ?_⟩
    · rw [Part.advanceExpiry_of_running hrun ha]
      exact Part.onTape_of_silent (Tape.advance_of_not_ready _ _ _) (hrequest rfl rfl)
    · rw [Part.advanceExpiry_of_running hrun ha]
      exact Part.onTape_of_silent (Tape.boundary_of_printing (t := ⟨ticked, s.part.console.flags⟩) hs hc hon ht hp)
        (hrequest rfl rfl)
    · have hboundary := Tape.boundary_of_suspension (t := ⟨ticked, s.part.console.flags⟩) (env := s.part.tapeEnv) hs hon
      obtain ⟨f, rib, htape, hbare⟩ :=
        s.part.onTape_bare_spec fun env => Tape.advance env s.part.settings.baseSpeed true
      rw [Tape.advance_of_ready, hboundary] at htape hbare
      refine ⟨_, next_onPart ((Part.advanceExpiry_of_running hrun ha true).trans htape), congrArg Ribbon.crawl hbare,
        congrArg Ribbon.strobed hbare, congrArg Ribbon.suspensionPending hbare, rfl, rfl, rfl, rfl, rfl,
        (congrArg Ribbon.free hbare :), ?_⟩
      refine (Ribbon.entry_map_of_bare (g := Entry.status) hbare (fun _ => rfl) e.slot).trans ?_
      exact Ribbon.setStatus_entry_status (r := ticked) .suspended (Ribbon.mem_of_onRibbon (r := ticked) hon)
  · refine next_onPart ?_
    rw [Part.advanceExpiry_of_running hrun ha]
    refine Part.onTape_of_silent
      (Tape.boundary_of_last (t := ⟨ticked, s.part.console.flags⟩) hs hc hu hr he) (Part.ribbonRequest_of_none ?_)
    simp [Ribbon.onRibbon, hu]

end Sys2Proof.Machine
end

section
/-! Entries made, candidates taken, merged or omitted, and the lag announced (R121 to R125, R138, R139). -/

namespace Sys2Proof.Machine

/-! ### Entries made (R121, R136) -/

section
variable {t : Tape} {env : TapeEnv} {slot : Nat} {rest : List Nat}

/-- R121: the flags after a slot taken leaves `free` slots. -/
def depletionFlags (free : Nat) (flags : Byte) : Byte :=
  if free = 32 then flags ||| 1 else flags

theorem Tape.makeEntry_urgent (content : EntryContent) (h : t.rib.free = slot :: rest) :
    t.makeEntry .urgent content = {
      rib := ({ t.rib with
        free := rest, urgent := t.rib.urgent ++ [⟨slot, .waiting, content, none⟩]
        suspensionPending := t.rib.suspensionPending || t.rib.suspendsFor } : Ribbon).recomputeLevel
      flags := depletionFlags rest.length t.flags } := by
  simp only [Tape.makeEntry, h]
  rfl

theorem Tape.makeEntry_routine (content : EntryContent) (h : t.rib.free = slot :: rest) :
    t.makeEntry .routine content = {
      rib := ({ t.rib with
        free := rest, routine := t.rib.routine ++ [⟨slot, .waiting, content, none⟩] } : Ribbon).recomputeLevel
      flags := depletionFlags rest.length t.flags } := by
  simp only [Tape.makeEntry, h]
  rfl

/-- An entry made changes the pool, the backlog, the pending suspension and the level alone. -/
theorem Tape.makeEntry_frame (band : Band) (content : EntryContent) (t : Tape) :
    ∃ free urgent routine pending level, (t.makeEntry band content).rib = { t.rib with
      free := free, urgent := urgent, routine := routine, suspensionPending := pending, level := level } := by
  cases h : t.rib.free with
  | nil =>
    rw [show t.makeEntry band content = t by simp [Tape.makeEntry, h]]
    exact ⟨_, _, _, _, _, rfl⟩
  | cons slot rest =>
    cases band with
    | urgent =>
      rw [Tape.makeEntry_urgent content h]
      exact ⟨_, _, _, _, _, rfl⟩
    | routine =>
      rw [Tape.makeEntry_routine content h]
      exact ⟨_, _, _, _, _, rfl⟩

/-- R133: while the crawl is not IDLE an entry that joins is not taken. -/
theorem Tape.join_of_crawling (band : Band) (content : EntryContent) (h : t.rib.crawl ≠ .idle) :
    t.join env band content = t.makeEntry band content := by
  obtain ⟨free, urgent, routine, pending, level, hframe⟩ := t.makeEntry_frame band content
  rw [Tape.join, if_neg]
  rwa [hframe]

end

/-! ### Candidates (R122 to R125) -/

section
variable {t : Tape} {env : TapeEnv} {c : SaleContents} {slot : Nat} {rest : List Nat} {x : SaleEntry}

/-- The SALE entry that a candidate makes (R121). -/
def SaleContents.entry (c : SaleContents) : EntryContent :=
  .sale ⟨c.symbol, c.price, c.volume, c.tradeTime, 0⟩

/-- R124: above the reserve, a candidate that does not merge takes a slot. -/
theorem Tape.candidate_of_room (hfold : ∀ k x, t.rib.youngestWaiting c.symbol = some (k, x) →
      ¬ (t.rib.level = 3 ∧ x.price = c.price ∧ x.merged < 255)) (hroom : 32 < t.rib.free.length) :
    t.candidate env c = t.join env .routine c.entry := by
  unfold Tape.candidate
  simp only
  split
  · rename_i k x h
    exact (if_neg (hfold k x h)).trans (if_pos hroom)
  · exact if_pos hroom

/-- R124, R125: at the reserve, a candidate that finds no entry to merge into is omitted. -/
theorem Tape.candidate_of_reserve (hfull : ∀ k x, t.rib.youngestWaiting c.symbol = some (k, x) → 255 ≤ x.merged)
    (hroom : t.rib.free.length ≤ 32) : t.candidate env c = t.omitSale env := by
  have hno : ¬ Config.reserveSlots < t.rib.free.length := Nat.not_lt.mpr hroom
  unfold Tape.candidate
  simp only
  split
  · rename_i k x h
    have hmerged : ¬ x.merged < Config.maxMerged := Nat.not_lt.mpr (hfull k x h)
    simp [hmerged, hno]
  · exact if_neg hno

/-- R123, R124: a candidate merged into the youngest entry of its symbol. -/
theorem Tape.candidate_of_merge (h : t.rib.youngestWaiting c.symbol = some (slot, x)) (hmerged : x.merged < 255)
    (hfold : t.rib.level = 3 ∧ x.price = c.price ∨ t.rib.free.length ≤ 32) :
    t.candidate env c = { t with rib := t.rib.mergeInto slot c } := by
  have hmax : x.merged < Config.maxMerged := hmerged
  simp only [Tape.candidate, h]
  rcases hfold with ⟨hlevel, hprice⟩ | hroom
  · exact if_pos ⟨hlevel, hprice, hmax⟩
  · have hno : ¬ Config.reserveSlots < t.rib.free.length := Nat.not_lt.mpr hroom
    simp [hno, hmax]

/-- R121: an entry made of a candidate while the crawl is at work. -/
theorem Tape.join_candidate (hc : t.rib.crawl ≠ .idle) (h : t.rib.free = slot :: rest) :
    t.join env .routine c.entry = {
      rib := ({ t.rib with
        free := rest
        routine := t.rib.routine ++ [⟨slot, .waiting, c.entry, none⟩] } : Ribbon).recomputeLevel
      flags := depletionFlags rest.length t.flags } :=
  (Tape.join_of_crawling _ _ hc).trans (Tape.makeEntry_routine _ h)

/-- The SALE entries of the backlog and the count of omitted sales. -/
def Ribbon.sales (r : Ribbon) : Nat × Nat :=
  (r.saleEntries, r.omitted)

theorem Tape.makeEntry_sales (band : Band) {content : EntryContent} (h : content.isSale = false) (t : Tape) :
    (t.makeEntry band content).rib.sales = t.rib.sales := by
  have homitted : (t.makeEntry band content).rib.omitted = t.rib.omitted := by
    obtain ⟨free, urgent, routine, pending, level, hframe⟩ := t.makeEntry_frame band content
    rw [hframe]
  rcases t.makeEntry_spec band content with ⟨-, hsame⟩ | ⟨-, -, hsales, -⟩
  · rw [hsame]
  · simp [Ribbon.sales, hsales, homitted, h]

theorem Tape.announce_sales (threshold m : Nat) (t : Tape) : (t.announce threshold m).rib.sales = t.rib.sales := by
  unfold Tape.announce
  split
  · rfl
  · split
    · split
      · rfl
      · exact t.makeEntry_sales .urgent (content := .late m) rfl
    · split
      · exact t.makeEntry_sales .routine (content := .current) rfl
      · rfl

theorem Tape.sample_sales (env : TapeEnv) (trade : Nat) (t : Tape) : (t.sample env trade).rib.sales = t.rib.sales := by
  unfold Tape.sample
  split
  · rfl
  · simp only
    split
    · rfl
    · exact Tape.announce_sales _ _ _

theorem Tape.takeHead_sales (env : TapeEnv) (t : Tape) : (t.takeHead env).rib.sales = t.rib.sales := by
  have htaken (slot : Nat) : (t.rib.setStatus slot .onRibbon).sales = t.rib.sales := by
    obtain ⟨-, hsales, -⟩ := t.rib.setStatus_spec slot .onRibbon
    exact congrArg (Prod.mk · t.rib.omitted) hsales
  unfold Tape.takeHead
  split
  · rfl
  · split
    · exact htaken _
    · simp only
      split
      · split
        · exact (Tape.sample_sales _ _ _).trans (htaken _)
        · exact htaken _
      · exact htaken _

theorem Tape.join_sales (env : TapeEnv) (band : Band) {content : EntryContent} (h : content.isSale = false) (t : Tape) :
    (t.join env band content).rib.sales = t.rib.sales := by
  have hmade := t.makeEntry_sales band h
  unfold Tape.join
  simp only
  split
  · exact (Tape.takeHead_sales _ _).trans hmade
  · exact hmade

/-- R125: an omitted candidate is counted and makes no SALE entry, whatever the crawl then takes. -/
theorem Tape.omitSale_spec (env : TapeEnv) (t : Tape) :
    (t.omitSale env).rib.saleEntries = t.rib.saleEntries ∧
      (t.omitSale env).rib.omitted = min (t.rib.omitted + 1) 9999 := by
  suffices h : (t.omitSale env).rib.sales = (t.rib.saleEntries, min (t.rib.omitted + 1) 9999) from
    Prod.mk.inj h
  unfold Tape.omitSale
  simp only
  split
  · rfl
  · exact Tape.join_sales _ _ rfl _

end

/-- Settles O42: without an entry to merge into, the candidate joins or is omitted by the free count. -/
theorem candidateTakesSlot : Obligations.CandidateTakesSlot := by
  intro env c t hnone hc
  have hno (k : Nat) (x : SaleEntry) : t.rib.youngestWaiting c.symbol ≠ some (k, x) := by simp [hnone]
  refine ⟨fun slot rest hfree hroom => ?_, fun hroom => ?_⟩
  · rw [Tape.candidate_of_room (fun k x h => absurd h (hno k x)) (by rw [hfree]; exact Nat.lt_succ_of_le hroom),
      Tape.join_candidate hc hfree]
    exact ⟨rfl, rfl, rfl, rfl, rfl⟩
  · rw [Tape.candidate_of_reserve (fun k x h => absurd h (hno k x)) hroom]
    exact t.omitSale_spec env

end Sys2Proof.Machine
end

section
/-! Candidates merged into an entry of the backlog (R120, R122 to R124). -/

namespace Sys2Proof.Machine

section
variable {r : Ribbon} {before later : List Entry} {e : Entry} {x : SaleEntry}

/-- R118: no slot holds two entries. -/
theorem Ribbon.PoolLaw.nodup_backlog (h : r.PoolLaw) : ((r.urgent ++ r.routine).map Entry.slot).Nodup := by
  obtain ⟨hperm, -⟩ := h
  have hslots : r.slots.Nodup := hperm.nodup_iff.mpr List.nodup_range
  rw [Ribbon.slots, List.append_assoc] at hslots
  rw [List.map_append]
  exact (List.nodup_append.mp hslots).2.1

theorem Ribbon.PoolLaw.slot_ne (h : r.PoolLaw) (hr : r.routine = before ++ e :: later) :
    ∀ y ∈ r.urgent ++ (before ++ later), y.slot ≠ e.slot := by
  have hnodup := h.nodup_backlog
  rw [hr, ← List.append_assoc, List.map_append, List.map_cons, List.nodup_middle, ← List.map_append,
    List.append_assoc] at hnodup
  exact fun y hy he => (List.nodup_cons.mp hnodup).1 (he ▸ List.mem_map_of_mem hy)

/-- An entry rewritten whose slot holds no other. -/
theorem Ribbon.modifyEntry_of_slot_ne (f : Entry → Entry) (hr : r.routine = before ++ e :: later)
    (hne : ∀ y ∈ r.urgent ++ (before ++ later), y.slot ≠ e.slot) :
    r.modifyEntry e.slot f = { r with routine := before ++ f e :: later } := by
  have hkeep (es : List Entry) (hes : ∀ y ∈ es, y.slot ≠ e.slot) :
      es.map (fun y => if y.slot = e.slot then f y else y) = es :=
    (List.map_congr_left fun y hy => if_neg (hes y hy)).trans (List.map_id' es)
  have hurgent := hkeep r.urgent fun y hy => hne y (by simp [hy])
  have hbefore := hkeep before fun y hy => hne y (by simp [hy])
  have hlater := hkeep later fun y hy => hne y (by simp [hy])
  simp [Ribbon.modifyEntry, hurgent, hr, hbefore, hlater]

/-- What a WAITING SALE entry of a symbol offers to a merge: its slot and its fields. -/
def Entry.waitingSale (s : Symbol) (e : Entry) : Option (Nat × SaleEntry) :=
  match e.content with
  | .sale x => if e.isWaiting ∧ x.symbol = s then some (e.slot, x) else none
  | _ => none

theorem Ribbon.youngestWaiting_eq (s : Symbol) (r : Ribbon) :
    r.youngestWaiting s = r.routine.reverse.findSome? (Entry.waitingSale s) := rfl

theorem Entry.waitingSale_eq_none {s : Symbol}
    (h : e.status = .waiting → ∀ z, e.content = .sale z → z.symbol ≠ s) : e.waitingSale s = none := by
  unfold Entry.waitingSale
  split
  · rename_i z hz
    exact if_neg fun ⟨hw, hsymbol⟩ => h (beq_iff_eq.mp hw) z hz hsymbol
  · rfl

theorem Entry.waitingSale_of_sale (hs : e.status = .waiting) (he : e.content = .sale x) :
    e.waitingSale x.symbol = some (e.slot, x) := by
  simp [Entry.waitingSale, he, Entry.isWaiting, hs]

/-- R120: the entry behind which no younger one of the symbol waits. -/
theorem Ribbon.youngestWaiting_append (hr : r.routine = before ++ e :: later) (hs : e.status = .waiting)
    (he : e.content = .sale x)
    (hl : ∀ y ∈ later, y.status = .waiting → ∀ z, y.content = .sale z → z.symbol ≠ x.symbol) :
    r.youngestWaiting x.symbol = some (e.slot, x) := by
  have hnone : later.reverse.findSome? (Entry.waitingSale x.symbol) = none :=
    List.findSome?_eq_none_iff.mpr fun y hy => Entry.waitingSale_eq_none (hl y (List.mem_reverse.mp hy))
  rw [Ribbon.youngestWaiting_eq, hr]
  simp [List.findSome?_append, hnone, Entry.waitingSale_of_sale hs he]

end

/-- Settles O43: the youngest entry of the symbol is the one found, and its slot is its own. -/
theorem mergesFold : Obligations.MergesFold := by
  intro env c t before later e x hpool hr hs he hsym hlater
  have hfound : t.rib.youngestWaiting c.symbol = some (e.slot, x) := by
    rw [← hsym] at hlater ⊢
    exact Ribbon.youngestWaiting_append hr hs he hlater
  have honly {k : Nat} {z : SaleEntry} (h : t.rib.youngestWaiting c.symbol = some (k, z)) : z = x :=
    (Prod.mk.inj (Option.some.inj (h.symm.trans hfound))).2
  refine ⟨fun ⟨hmerged, hfold⟩ => ?_, fun hno hc slot rest hfree hroom => ?_, fun hno hroom => ?_⟩
  · rw [Tape.candidate_of_merge hfound hmerged hfold, Ribbon.mergeInto,
      Ribbon.modifyEntry_of_slot_ne _ hr (hpool.slot_ne hr)]
    simp only [he]
    rfl
  · rw [Tape.candidate_of_room (fun k z h hfold => ?_) (by rw [hfree]; exact Nat.lt_succ_of_le hroom),
      Tape.join_candidate hc hfree]
    · exact ⟨rfl, rfl, rfl, rfl⟩
    · obtain ⟨hlevel, hprice, hmerged⟩ := honly h ▸ hfold
      exact hno ⟨hmerged, .inl ⟨hlevel, hprice⟩⟩
  · rw [Tape.candidate_of_reserve (fun k z h => ?_) hroom]
    · exact t.omitSale_spec env
    · rw [honly h]
      exact Nat.not_lt.mp fun hmerged => hno ⟨hmerged, .inr hroom⟩

end Sys2Proof.Machine
end

section
/-! The lag sampled at the taking of an entry, and announced (R133, R138, R139). -/

namespace Sys2Proof.Machine

section
variable {t : Tape} {env : TapeEnv} {threshold m slot : Nat} {rest : List Nat}

/-! ### Announcements (R139) -/

theorem Tape.announce_of_silent (h : t.rib.free = [] ∨ threshold ≤ m ∧ t.rib.announced = some m ∨
    m < threshold ∧ t.rib.announced = none) : t.announce threshold m = t := by
  rcases h with hfree | ⟨hlate, hsame⟩ | ⟨hcurrent, hnone⟩
  · exact if_pos hfree
  · simp [Tape.announce, hlate, hsame]
  · simp [Tape.announce, Nat.not_le.mpr hcurrent, hnone]

/-- R139: a lag that is late and was not the last announced. -/
theorem Tape.announce_of_late (hfree : t.rib.free = slot :: rest) (hlate : threshold ≤ m)
    (hnew : t.rib.announced ≠ some m) :
    t.announce threshold m = {
      rib := { (t.makeEntry .urgent (.late m)).rib with announced := some m }
      flags := (t.makeEntry .urgent (.late m)).flags ||| 2 } := by
  simp only [Tape.announce, hfree, hlate, hnew, if_true, if_false, reduceCtorEq]
  rfl

/-- R139: the first lag below the threshold after one announced. -/
theorem Tape.announce_of_current (hfree : t.rib.free = slot :: rest) (hcurrent : m < threshold)
    (hannounced : t.rib.announced.isSome = true) :
    t.announce threshold m = {
      rib := { (t.makeEntry .routine .current).rib with announced := none }
      flags := (t.makeEntry .routine .current).flags } := by
  simp [Tape.announce, hfree, Nat.not_le.mpr hcurrent, hannounced]

theorem Tape.announce_countdown (threshold m : Nat) (t : Tape) :
    (t.announce threshold m).rib.countdown = t.rib.countdown := by
  have hmade (band : Band) (content : EntryContent) :
      (t.makeEntry band content).rib.countdown = t.rib.countdown := by
    obtain ⟨free, urgent, routine, pending, level, hframe⟩ := t.makeEntry_frame band content
    rw [hframe]
  unfold Tape.announce
  split
  · rfl
  · split
    · split
      · rfl
      · exact hmade .urgent (.late m)
    · split
      · exact hmade .routine .current
      · rfl

/-! ### The sampling (R138) -/

/-- The ribbon with a lag measured and the countdown started again. -/
def Ribbon.measured (period m : Nat) (r : Ribbon) : Ribbon :=
  { r with countdown := period, tapeLag := m }

theorem Tape.sample_of_countdown (trade : Nat) (h : 1 < t.rib.countdown) :
    t.sample env trade = { t with rib := { t.rib with countdown := t.rib.countdown - 1 } } :=
  if_pos h

theorem Tape.sample_of_unset (trade : Nat) (h : t.rib.countdown ≤ 1) (hnow : env.now = none) :
    t.sample env trade = { t with rib := { t.rib with countdown := env.samplePeriod } } := by
  simp [Tape.sample, Nat.not_lt.mpr h, hnow]

theorem Tape.sample_of_due {now : Nat} (trade : Nat) (h : t.rib.countdown ≤ 1) (hnow : env.now = some now) :
    t.sample env trade = ({ t with rib := t.rib.measured env.samplePeriod (lagMinutes now trade) } : Tape).announce
      env.lateThreshold (lagMinutes now trade) := by
  simp [Tape.sample, Nat.not_lt.mpr h, hnow, Ribbon.measured]

theorem Tape.sample_countdown (trade : Nat) (h : t.rib.countdown ≤ 1) :
    (t.sample env trade).rib.countdown = env.samplePeriod := by
  cases hnow : env.now with
  | none => rw [Tape.sample_of_unset trade h hnow]
  | some now => rw [Tape.sample_of_due trade h hnow, Tape.announce_countdown, Ribbon.measured]

/-! ### The head taken (R133) -/

variable {band : Band} {e : Entry}

/-- R133: the taking of a TEXT entry, or of a SUSPENDED one, samples nothing. -/
theorem Tape.takeHead_of_unsampled (h : t.rib.head = some (band, e))
    (he : (∀ x, e.content ≠ .sale x) ∨ e.status = .suspended) :
    ∃ c, t.takeHead env = { t with
      rib := ({ t.rib.setStatus e.slot .onRibbon with crawl := c } : Ribbon).recomputeLevel } := by
  simp only [Tape.takeHead, h]
  split
  · exact ⟨_, rfl⟩
  · split
    · rename_i x hx
      rcases he with hno | hs
      · exact absurd hx (hno x)
      · have hnot : ¬ e.isWaiting = true := by simp [Entry.isWaiting, hs]
        rw [if_neg hnot]
        exact ⟨_, rfl⟩
    · exact ⟨_, rfl⟩

/-- R133: the entry of a slot ON RIBBON, its text awaited. -/
def Tape.awaiting (slot : Nat) (t : Tape) : Tape :=
  { t with rib := { t.rib.setStatus slot .onRibbon with crawl := .awaitingText } }

/-- R133, R138: the taking of a WAITING SALE entry samples its trade time. -/
theorem Tape.takeHead_of_sampled {x : SaleEntry} (h : t.rib.head = some (band, e)) (he : e.content = .sale x)
    (hs : e.status = .waiting) :
    t.takeHead env = {
      rib := ((t.awaiting e.slot).sample env x.tradeTime).rib.recomputeLevel
      flags := ((t.awaiting e.slot).sample env x.tradeTime).flags } := by
  simp [Tape.takeHead, h, he, Entry.isSuspended, Entry.isWaiting, hs, Tape.awaiting]

end

/-- Settles O44: the announcement by its cases, and the sampling by the entry that is taken. -/
theorem lagAnnounced : Obligations.LagAnnounced := by
  refine ⟨fun env trade t => ⟨Tape.sample_of_countdown trade, Tape.sample_of_unset trade, fun now hdue hnow => ?_⟩,
    fun env t band e hhead => ⟨fun he => ?_, fun x he hs => ?_⟩⟩
  · intro m measured
    have hsample : t.sample env trade = (⟨measured, t.flags⟩ : Tape).announce env.lateThreshold m :=
      Tape.sample_of_due trade hdue hnow
    rw [hsample]
    refine ⟨Tape.announce_of_silent (t := ⟨measured, t.flags⟩), fun slot rest hfree => ⟨fun hlate hnew => ?_,
      fun hcurrent hannounced => ?_⟩⟩
    · rw [Tape.announce_of_late (t := ⟨measured, t.flags⟩) hfree hlate hnew,
        Tape.makeEntry_urgent (t := ⟨measured, t.flags⟩) _ hfree]
      exact ⟨rfl, rfl, rfl, rfl, rfl, rfl, rfl⟩
    · rw [Tape.announce_of_current (t := ⟨measured, t.flags⟩) hfree hcurrent hannounced,
        Tape.makeEntry_routine (t := ⟨measured, t.flags⟩) _ hfree]
      exact ⟨rfl, rfl, rfl, rfl, rfl, rfl, rfl⟩
  · obtain ⟨c, htaken⟩ := Tape.takeHead_of_unsampled (env := env) hhead he
    rw [htaken]
    exact ⟨rfl, rfl, rfl, rfl⟩
  · rw [Tape.takeHead_of_sampled hhead he hs]
    refine ⟨fun hcount => ?_, fun hdue => ⟨?_, fun now hnow => ?_⟩⟩
    · have hsample := Tape.sample_of_countdown (t := t.awaiting e.slot) (env := env) x.tradeTime hcount
      exact ⟨congrArg (fun s => s.rib.countdown) hsample, congrArg (fun s => s.rib.tapeLag) hsample⟩
    · exact Tape.sample_countdown (t := t.awaiting e.slot) x.tradeTime hdue
    · have hsample := Tape.sample_of_due (t := t.awaiting e.slot) x.tradeTime hdue hnow
      exact (congrArg (fun s => s.rib.tapeLag) hsample).trans (Tape.announce_tapeLag _ _ _)

end Sys2Proof.Machine
end

section
/-! A NOTICE on the ribbon and at the terminals (R127, R136, R153). -/

namespace Sys2Proof.Machine

section
variable {p : Part} {t : Tape} {env : TapeEnv} {u slot : Nat} {rest : List Nat} {text : List Byte}

/-- R25: while the Formatter is at work a request of the Ribbon Feeder waits, and writes no entry. -/
theorem Part.onTape_of_forming (g : TapeEnv → Tape → Tape) (hf : p.formatter.forming.isSome = true) :
    ∃ f req, p.onTape g = { p with
      formatter := f
      ribbon := { (g p.tapeEnv ⟨p.ribbon, p.console.flags⟩).rib with request := req }
      console := { p.console with flags := (g p.tapeEnv ⟨p.ribbon, p.console.flags⟩).flags } } := by
  unfold Part.onTape
  simp only
  set t := g p.tapeEnv ⟨p.ribbon, p.console.flags⟩
  exact Part.ribbonRequest_of_forming
    (p := { p with ribbon := t.rib, console := { p.console with flags := t.flags } }) hf

/-- R127: a notice that joins a ribbon at work, by its urgency. -/
theorem Tape.notice_spec (hu : u ≤ 1) (hc : t.rib.crawl ≠ .idle) (hfree : t.rib.free = slot :: rest) :
    (t.notice env u text).rib.free = rest ∧ (t.notice env u text).rib.crawl = t.rib.crawl ∧
      (u = 0 → (t.notice env u text).rib.urgent = t.rib.urgent ∧
        (t.notice env u text).rib.routine = t.rib.routine ++ [⟨slot, .waiting, .notice text, none⟩] ∧
        (t.notice env u text).rib.suspensionPending = t.rib.suspensionPending) ∧
      (u = 1 → (t.notice env u text).rib.urgent = t.rib.urgent ++ [⟨slot, .waiting, .notice text, none⟩] ∧
        (t.notice env u text).rib.routine = t.rib.routine ∧
        (t.notice env u text).rib.suspensionPending = (t.rib.suspensionPending || t.rib.suspendsFor)) := by
  match u with
  | 0 =>
    have hjoin : t.notice env 0 text = t.makeEntry .routine (.notice text) := Tape.join_of_crawling _ _ hc
    rw [hjoin, Tape.makeEntry_routine _ hfree]
    exact ⟨rfl, rfl, fun _ => ⟨rfl, rfl, rfl⟩, nofun⟩
  | 1 =>
    have hjoin : t.notice env 1 text = t.makeEntry .urgent (.notice text) := Tape.join_of_crawling _ _ hc
    rw [hjoin, Tape.makeEntry_urgent _ hfree]
    exact ⟨rfl, rfl, nofun, fun _ => ⟨rfl, rfl, rfl⟩⟩
  | n + 2 => omega

theorem Part.noticeArrives_of_other (hu : 2 ≤ u) : p.noticeArrives u text = p :=
  if_neg (by omega)

theorem Part.noticeArrives_of_urgency (hu : u ≤ 1) :
    p.noticeArrives u text = { p.onTape (fun env => Tape.notice env u text) with
      terminals := (p.onTape fun env => Tape.notice env u text).terminals.map
        (Terminal.takeNotice ⟨text, u == 1⟩) } :=
  if_pos hu

theorem get_terminals_map (f : Terminal → Terminal) (ts : Vector Terminal 8) (k : TerminalId) :
    (ts.map f).get k = f (ts.get k) := by
  simp [Vector.get_eq_getElem]

theorem Terminal.takeNotice_of_unused {x : Terminal} (m : Message) (h : x.state = .unused) : x.takeNotice m = x :=
  if_pos h

theorem Terminal.takeNotice_of_used {x : Terminal} (m : Message) (h : x.state ≠ .unused) :
    x.takeNotice m = { x with message := some m, messageOwed := true } :=
  if_neg h

end

/-- Settles O45: the entry made by the notice, the request that waits, and the terminals in use. -/
theorem noticeReachesDisplays : Obligations.NoticeReachesDisplays := by
  intro p u slot text rest hf hc hfree
  refine ⟨Part.noticeArrives_of_other, fun hu => ?_⟩
  obtain ⟨f, req, htape⟩ := Part.onTape_of_forming (p := p) (fun env => Tape.notice env u text) hf
  obtain ⟨hrest, hcrawl, hroutine, hurgent⟩ :=
    Tape.notice_spec (t := ⟨p.ribbon, p.console.flags⟩) (env := p.tapeEnv) (text := text) hu hc hfree
  rw [Part.noticeArrives_of_urgency hu, htape]
  refine ⟨rfl, rfl, rfl, rfl, hrest, hcrawl, hroutine, hurgent, fun k => ?_⟩
  have hterminal := get_terminals_map (Terminal.takeNotice ⟨text, u == 1⟩) p.terminals k
  exact ⟨fun hk => hterminal.trans (Terminal.takeNotice_of_unused _ hk),
    fun hk => hterminal.trans (Terminal.takeNotice_of_used _ hk)⟩

end Sys2Proof.Machine
end

section
/-! The ribbon at a warm restart (R143): the backlog put back, and the head taken anew. -/

namespace Sys2Proof.Machine

/-! ### What the taking of a head may announce (R138, R139) -/

/-- A change of the ribbon that makes the entries `x` and `y` at the tails of the bands, one at most, and neither
starts nor stops the crawl. -/
structure Ribbon.Announces (r r' : Ribbon) (x y : List Entry) : Prop where
  urgent : r'.urgent = r.urgent ++ x
  routine : r'.routine = r.routine ++ y
  free : (x ++ y).map Entry.slot ++ r'.free = r.free
  atMostOne : (x ++ y).length ≤ 1
  waiting : ∀ e ∈ x ++ y, e.status = .waiting
  pending : x = [] → r'.suspensionPending = r.suspensionPending
  crawl : r'.crawl = r.crawl
  advance : r'.advance = r.advance

section
variable {t : Tape} {r r' : Ribbon} {env : TapeEnv} {band : Band} {e : Entry}

/-- A change of the countdown, the lag or the level announces nothing. -/
theorem Ribbon.Announces.of_none (hu : r'.urgent = r.urgent) (hr : r'.routine = r.routine) (hf : r'.free = r.free)
    (hp : r'.suspensionPending = r.suspensionPending) (hc : r'.crawl = r.crawl) (ha : r'.advance = r.advance) :
    r.Announces r' [] [] where
  urgent := by rw [hu, List.append_nil]
  routine := by rw [hr, List.append_nil]
  free := hf
  atMostOne := Nat.zero_le 1
  waiting := nofun
  pending := fun _ => hp
  crawl := hc
  advance := ha

theorem Tape.announce_announces (threshold m : Nat) (t : Tape) :
    ∃ x y, t.rib.Announces (t.announce threshold m).rib x y := by
  have hsilent (h : t.announce threshold m = t) : ∃ x y, t.rib.Announces (t.announce threshold m).rib x y := by
    rw [h]
    exact ⟨[], [], .of_none rfl rfl rfl rfl rfl rfl⟩
  cases hfree : t.rib.free with
  | nil => exact hsilent (Tape.announce_of_silent (.inl hfree))
  | cons slot rest =>
    by_cases hlate : threshold ≤ m
    · by_cases hnew : t.rib.announced = some m
      · exact hsilent (Tape.announce_of_silent (.inr (.inl ⟨hlate, hnew⟩)))
      · refine ⟨[⟨slot, .waiting, .late m, none⟩], [], ?_⟩
        rw [Tape.announce_of_late hfree hlate hnew, Tape.makeEntry_urgent _ hfree]
        exact ⟨rfl, (List.append_nil _).symm, hfree.symm, le_rfl, by simp, nofun, rfl, rfl⟩
    · have hcurrent : m < threshold := Nat.not_le.mp hlate
      cases hannounced : t.rib.announced with
      | none => exact hsilent (Tape.announce_of_silent (.inr (.inr ⟨hcurrent, hannounced⟩)))
      | some n =>
        refine ⟨[], [⟨slot, .waiting, .current, none⟩], ?_⟩
        rw [Tape.announce_of_current hfree hcurrent (by rw [hannounced]; rfl), Tape.makeEntry_routine _ hfree]
        exact ⟨(List.append_nil _).symm, rfl, hfree.symm, le_rfl, by simp, fun _ => rfl, rfl, rfl⟩

/-- R138: without the time of day a sampling announces nothing. -/
theorem Tape.sample_announces (env : TapeEnv) (trade : Nat) (t : Tape) :
    ∃ x y, t.rib.Announces (t.sample env trade).rib x y ∧ (env.now = none → x = [] ∧ y = []) := by
  by_cases hcount : 1 < t.rib.countdown
  · rw [Tape.sample_of_countdown trade hcount]
    exact ⟨[], [], .of_none rfl rfl rfl rfl rfl rfl, fun _ => ⟨rfl, rfl⟩⟩
  · have hdue : t.rib.countdown ≤ 1 := Nat.not_lt.mp hcount
    cases hnow : env.now with
    | none =>
      rw [Tape.sample_of_unset trade hdue hnow]
      exact ⟨[], [], .of_none rfl rfl rfl rfl rfl rfl, fun _ => ⟨rfl, rfl⟩⟩
    | some now =>
      rw [Tape.sample_of_due trade hdue hnow]
      obtain ⟨x, y, hurgent, hroutine, hfree, hone, hwaiting, hpending, hcrawl, hadvance⟩ :=
        Tape.announce_announces env.lateThreshold (lagMinutes now trade)
          { t with rib := t.rib.measured env.samplePeriod (lagMinutes now trade) }
      exact ⟨x, y, ⟨hurgent, hroutine, hfree, hone, hwaiting, hpending, hcrawl, hadvance⟩, nofun⟩

theorem Ribbon.Announces.recomputed {x y : List Entry} (h : r.Announces r' x y) :
    r.Announces r'.recomputeLevel x y :=
  ⟨h.urgent, h.routine, h.free, h.atMostOne, h.waiting, h.pending, h.crawl, h.advance⟩

/-- R133: a WAITING head is ON RIBBON with its text awaited, and its sampling may announce. -/
theorem Tape.takeHead_announces (h : t.rib.head = some (band, e)) (hs : e.status = .waiting) :
    ∃ x y, (t.awaiting e.slot).rib.Announces (t.takeHead env).rib x y ∧ (env.now = none → x = [] ∧ y = []) := by
  by_cases hsale : ∃ x, e.content = .sale x
  · obtain ⟨x, he⟩ := hsale
    obtain ⟨a, b, hannounces, hnone⟩ := (t.awaiting e.slot).sample_announces env x.tradeTime
    rw [Tape.takeHead_of_sampled h he hs]
    exact ⟨a, b, hannounces.recomputed, hnone⟩
  · have htaken : t.takeHead env = { t.awaiting e.slot with rib := (t.awaiting e.slot).rib.recomputeLevel } := by
      cases he : e.content with
      | sale x => exact absurd ⟨x, he⟩ hsale
      | notice text | tapeTime hour minute | late n | current | omitted n =>
        simp [Tape.takeHead, h, he, Entry.isSuspended, hs, Tape.awaiting]
    rw [htaken]
    exact ⟨[], [], .of_none rfl rfl rfl rfl rfl rfl, fun _ => ⟨rfl, rfl⟩⟩

end

/-! ### The backlog put back (R143) -/

theorem Entry.putBack_status (e : Entry) : e.putBack.status = .waiting := by
  unfold Entry.putBack
  split
  · rename_i h
    exact beq_iff_eq.mp h
  · rfl

theorem putBackBand_waiting {es : List Entry} {e : Entry} (h : e ∈ putBackBand es) : e.status = .waiting := by
  rcases List.mem_append.mp h with h | h
  · obtain ⟨x, -, rfl⟩ := List.mem_map.mp h
    exact x.putBack_status
  · exact beq_iff_eq.mp (List.mem_filter.mp h).2

theorem putBackBand_slots (es : List Entry) : (putBackBand es).map Entry.slot = restartOrder es := by
  have hcomp : Entry.slot ∘ Entry.putBack = Entry.slot := funext Entry.putBack_slot
  rw [putBackBand, List.map_append, List.map_map, hcomp]
  rfl

/-- R143: the ribbon with its backlog put back, before the head is taken. -/
def Ribbon.putBack (r : Ribbon) : Ribbon :=
  { r with
    urgent := putBackBand r.urgent, routine := putBackBand r.routine, request := none, suspensionPending := false }

theorem Tape.warmRestart_eq (env : TapeEnv) (t : Tape) :
    t.warmRestart env = ({ t with rib := t.rib.putBack } : Tape).takeHead env := rfl

/-! ### The first of a backlog that waits (R120) -/

section
variable {r r' : Ribbon} {band : Band} {e : Entry} {x y : List Entry}

theorem find?_eq_head? {p : Entry → Bool} {es : List Entry} (h : ∀ e ∈ es, p e = true) : es.find? p = es.head? := by
  cases es with
  | nil => rfl
  | cons e es => exact List.find?_cons_of_pos (h e (List.mem_cons_self ..))

/-- R120: while every entry waits the head of the backlog is the first of its bands. -/
theorem Ribbon.head_of_waiting (h : ∀ e ∈ r.urgent ++ r.routine, e.status = .waiting) :
    r.head.map Prod.snd = (r.urgent ++ r.routine).head? := by
  have hwaiting {es : List Entry} (hes : ∀ e ∈ es, e.status = .waiting) : es.find? Entry.isWaiting = es.head? :=
    find?_eq_head? fun e he => beq_iff_eq.mpr (hes e he)
  have hsuspended : r.routine.find? Entry.isSuspended = none :=
    List.find?_eq_none.mpr fun e he => by simp [Entry.isSuspended, h e (List.mem_append_right _ he)]
  have hurgent := hwaiting fun e he => h e (List.mem_append_left _ he)
  have hroutine := hwaiting fun e he => h e (List.mem_append_right _ he)
  unfold Ribbon.head
  rw [hurgent, hsuspended, hroutine]
  cases r.urgent with
  | nil => simp [Function.comp_def]
  | cons e es => rfl

end

/-! ### The ribbon taken anew (R143) -/

/-- R133: an entry as it stands when the entry of a slot is taken. -/
def Entry.taken (slot : Nat) (e : Entry) : Entry :=
  if e.slot = slot then { e with status := .onRibbon } else e

theorem Entry.taken_slot (slot : Nat) (e : Entry) : (e.taken slot).slot = e.slot := by
  unfold Entry.taken
  split <;> rfl

theorem Entry.taken_isOnRibbon (e : Entry) : (e.taken e.slot).isOnRibbon = true := by
  simp [Entry.taken, Entry.isOnRibbon]

theorem Entry.taken_not_suspended {e : Entry} (h : e.status = .waiting) (slot : Nat) :
    (e.taken slot).status ≠ .suspended := by
  unfold Entry.taken
  split <;> simp [h]

theorem map_taken_slots (slot : Nat) (es : List Entry) :
    (es.map (Entry.taken slot)).map Entry.slot = es.map Entry.slot := by
  have hcomp : Entry.slot ∘ Entry.taken slot = Entry.slot := funext (Entry.taken_slot slot)
  rw [List.map_map, hcomp]

/-- R143: a ribbon that took its backlog anew, the slots of `x` and `y` its announcement's. -/
structure Ribbon.TakenAnew (r r' : Ribbon) (x y : List Nat) : Prop where
  urgent : r'.urgent.map Entry.slot = restartOrder r.urgent ++ x
  routine : r'.routine.map Entry.slot = restartOrder r.routine ++ y
  free : x ++ y ++ r'.free = r.free
  atMostOne : (x ++ y).length ≤ 1
  pending : x = [] → r'.suspensionPending = false
  noneSuspended : ∀ e ∈ r'.urgent ++ r'.routine, e.status ≠ .suspended
  crawl : r'.crawl = if restartOrder r.urgent ++ restartOrder r.routine = [] then .idle else .awaitingText
  onRibbon : (r'.onRibbon.map fun be => be.2.slot) = (restartOrder r.urgent ++ restartOrder r.routine).head?
  advance : r'.advance = r.advance

section
variable {r r' q : Ribbon} {t : Tape} {env : TapeEnv} {e : Entry} {x y : List Entry}

/-- R120: with the first of a waiting backlog taken and what is announced WAITING, it is the entry ON RIBBON. -/
theorem Ribbon.onRibbon_of_taken (hhead : (r.urgent ++ r.routine).head? = some e)
    (hu : r'.urgent = r.urgent.map (Entry.taken e.slot) ++ x)
    (hr : r'.routine = r.routine.map (Entry.taken e.slot) ++ y) (hx : ∀ a ∈ x, a.status = .waiting) :
    (r'.onRibbon.map fun be => be.2.slot) = some e.slot := by
  have hfind (es z : List Entry) :
      ((e :: es).map (Entry.taken e.slot) ++ z).find? Entry.isOnRibbon = some (e.taken e.slot) :=
    List.find?_cons_of_pos e.taken_isOnRibbon
  unfold Ribbon.onRibbon
  rw [hu, hr]
  cases hurgent : r.urgent with
  | nil =>
    have hnone : x.find? Entry.isOnRibbon = none :=
      List.find?_eq_none.mpr fun a ha => by simp [Entry.isOnRibbon, hx a ha]
    obtain ⟨es, hroutine⟩ := List.head?_eq_some_iff.mp (hurgent ▸ hhead : ([] ++ r.routine).head? = some e)
    rw [List.nil_append] at hroutine
    rw [List.map_nil, List.nil_append, hnone, hroutine, hfind]
    exact congrArg some (Entry.taken_slot _ e)
  | cons a es =>
    obtain rfl : a = e := Option.some.inj (by rwa [hurgent] at hhead)
    rw [hfind]
    exact congrArg some (Entry.taken_slot _ a)

theorem Ribbon.putBack_waiting : ∀ e ∈ r.putBack.urgent ++ r.putBack.routine, e.status = .waiting := by
  intro e he
  rcases List.mem_append.mp he with h | h
  · exact putBackBand_waiting h
  · exact putBackBand_waiting h

theorem Ribbon.putBack_slots (r : Ribbon) : (r.putBack.urgent ++ r.putBack.routine).map Entry.slot =
    restartOrder r.urgent ++ restartOrder r.routine := by
  rw [List.map_append]
  exact congrArg₂ _ (putBackBand_slots _) (putBackBand_slots _)

/-- R143 with an empty backlog: the crawl is IDLE. -/
theorem Tape.warmRestart_of_empty (h : t.rib.putBack.head = none) :
    t.rib.TakenAnew (t.warmRestart env).rib [] [] := by
  have hempty : t.rib.putBack.urgent ++ t.rib.putBack.routine = [] := by
    rw [← List.head?_eq_none_iff, ← Ribbon.head_of_waiting Ribbon.putBack_waiting, h]
    rfl
  obtain ⟨hurgent, hroutine⟩ := List.append_eq_nil_iff.mp hempty
  have hslots := t.rib.putBack_slots
  rw [hempty] at hslots
  have hwarm : t.warmRestart env = { t with rib := { t.rib.putBack with crawl := .idle } } := by
    rw [Tape.warmRestart_eq, Tape.takeHead, h]
  rw [hwarm]
  refine ⟨(putBackBand_slots _).trans (List.append_nil _).symm, (putBackBand_slots _).trans (List.append_nil _).symm,
    rfl, Nat.zero_le 1, fun _ => rfl, fun e he => ?_, ?_, ?_, rfl⟩
  · exact absurd (hempty ▸ he) List.not_mem_nil
  · rw [← hslots]
    rfl
  · rw [← hslots]
    simp [Ribbon.onRibbon, hurgent, hroutine]

/-- R143 with a backlog: its first entry is taken, and its sampling may announce. -/
theorem Ribbon.Announces.takenAnew (hhead : (r.putBack.urgent ++ r.putBack.routine).head? = some e)
    (h : (({ rib := r.putBack, flags := t.flags } : Tape).awaiting e.slot).rib.Announces r' x y) :
    r.TakenAnew r' (x.map Entry.slot) (y.map Entry.slot) := by
  have hslots := r.putBack_slots
  have hu : r'.urgent = r.putBack.urgent.map (Entry.taken e.slot) ++ x := h.urgent
  have hr : r'.routine = r.putBack.routine.map (Entry.taken e.slot) ++ y := h.routine
  have hbacklog : (restartOrder r.urgent ++ restartOrder r.routine).head? = some e.slot := by
    rw [← hslots, List.head?_map, hhead]
    rfl
  refine ⟨?_, ?_, ?_, ?_, fun hx => ?_, fun a ha => ?_, ?_, ?_, h.advance⟩
  · rw [hu, List.map_append, map_taken_slots]
    exact congrArg (· ++ _) (putBackBand_slots _)
  · rw [hr, List.map_append, map_taken_slots]
    exact congrArg (· ++ _) (putBackBand_slots _)
  · rw [← List.map_append]
    exact h.free
  · rw [← List.map_append, List.length_map]
    exact h.atMostOne
  · exact h.pending (List.map_eq_nil_iff.mp hx)
  · have hbands : a ∈ (r.putBack.urgent ++ r.putBack.routine).map (Entry.taken e.slot) ∨ a ∈ x ++ y := by
      rw [hu, hr] at ha
      simp only [List.map_append, List.mem_append] at ha ⊢
      tauto
    rcases hbands with hmem | hmem
    · obtain ⟨b, hb, rfl⟩ := List.mem_map.mp hmem
      exact Entry.taken_not_suspended (Ribbon.putBack_waiting b hb) _
    · simp [h.waiting a hmem]
  · rw [if_neg fun hnil => by simp [hnil] at hbacklog]
    exact h.crawl
  · rw [hbacklog]
    exact Ribbon.onRibbon_of_taken hhead hu hr fun a ha => h.waiting a (List.mem_append_left _ ha)

/-- R143: the warm restart of the Ribbon Feeder. -/
theorem Tape.warmRestart_takenAnew (env : TapeEnv) (t : Tape) :
    ∃ x y, t.rib.TakenAnew (t.warmRestart env).rib x y ∧ (env.now = none → x = [] ∧ y = []) := by
  cases h : t.rib.putBack.head with
  | none => exact ⟨[], [], Tape.warmRestart_of_empty h, fun _ => ⟨rfl, rfl⟩⟩
  | some head =>
    obtain ⟨band, e⟩ := head
    have hhead : (t.rib.putBack.urgent ++ t.rib.putBack.routine).head? = some e := by
      rw [← Ribbon.head_of_waiting Ribbon.putBack_waiting, h]
      rfl
    have hs : e.status = .waiting := Ribbon.putBack_waiting e (List.mem_of_head? hhead)
    obtain ⟨x, y, hannounces, hnone⟩ :=
      Tape.takeHead_announces (t := { t with rib := t.rib.putBack }) (env := env) h hs
    refine ⟨_, _, hannounces.takenAnew hhead, fun hnow => ?_⟩
    obtain ⟨rfl, rfl⟩ := hnone hnow
    exact ⟨rfl, rfl⟩

theorem map_of_bare {β : Type} {g : Entry → β} (hg : ∀ e : Entry, g e.bare = g e) {es es' : List Entry}
    (h : es'.map Entry.bare = es.map Entry.bare) : es'.map g = es.map g := by
  have hcomp : g ∘ Entry.bare = g := funext hg
  have hmap := congrArg (List.map g) h
  rwa [List.map_map, List.map_map, hcomp] at hmap

/-- What a request writes does not show in a ribbon taken anew. -/
theorem Ribbon.TakenAnew.of_bare {u v : List Nat} (h : r.TakenAnew q u v) (hb : r'.bare = q.bare) :
    r.TakenAnew r' u v := by
  have hurgent : r'.urgent.map Entry.bare = q.urgent.map Entry.bare := (congrArg Ribbon.urgent hb :)
  have hroutine : r'.routine.map Entry.bare = q.routine.map Entry.bare := (congrArg Ribbon.routine hb :)
  have hstatus : (r'.urgent ++ r'.routine).map Entry.status = (q.urgent ++ q.routine).map Entry.status :=
    map_of_bare (g := Entry.status) (fun _ => rfl) (by rw [List.map_append, List.map_append, hurgent, hroutine])
  have hfree : r'.free = q.free := (congrArg Ribbon.free hb :)
  have hpending : r'.suspensionPending = q.suspensionPending := (congrArg Ribbon.suspensionPending hb :)
  have hcrawl : r'.crawl = q.crawl := (congrArg Ribbon.crawl hb :)
  have hadvance : r'.advance = q.advance := (congrArg Ribbon.advance hb :)
  refine ⟨?_, ?_, ?_, h.atMostOne, fun hu => hpending.trans (h.pending hu), fun e he => ?_, hcrawl.trans h.crawl, ?_,
    hadvance.trans h.advance⟩
  · exact (map_of_bare (fun _ => rfl) hurgent).trans h.urgent
  · exact (map_of_bare (fun _ => rfl) hroutine).trans h.routine
  · rw [hfree]
    exact h.free
  · obtain ⟨a, ha, hae⟩ := List.mem_map.mp (hstatus ▸ List.mem_map_of_mem (f := Entry.status) he)
    rw [← hae]
    exact h.noneSuspended a ha
  · rw [← h.onRibbon]
    have hmap := congrArg (Option.map fun be => be.2.slot) (congrArg Ribbon.onRibbon hb)
    rw [Ribbon.bare_onRibbon, Ribbon.bare_onRibbon, Option.map_map, Option.map_map] at hmap
    exact hmap

end

end Sys2Proof.Machine
end

section
/-! The warm restart of the blocks, as the ribbon and the boards see it (R117, R143, R173). -/

namespace Sys2Proof.Machine

/-! ### What the choice of work leaves (R97, R105 to R107) -/

section
variable {x y : Zone}

theorem Zone.Owing.fixed (h : x.Owing y) : y.fixed = x.fixed := by
  rcases h with rfl | rfl
  · rfl
  · exact x.owe_fixed

theorem Zone.Owing.group (h : x.Owing y) : y.group = x.group := by
  rcases h with rfl | rfl
  · rfl
  · exact x.owe_group

end

section
variable (b : Board)

theorem Board.takeDirty_spec : ∃ d o, b.takeDirty = { b with dirty := d, op := o } := by
  unfold Board.takeDirty
  split
  · exact ⟨_, _, rfl⟩
  · exact ⟨_, _, rfl⟩

theorem Board.takeAtCursor_spec (c : Nat) : ∃ zs d o cur n,
    b.takeAtCursor c = { b with zones := zs, dirty := d, op := o, cursor := cur, nextSource := n } := by
  unfold Board.takeAtCursor
  split
  · exact ⟨_, _, _, _, _, rfl⟩
  · rename_i zones _
    obtain ⟨d, o, h⟩ := ({ b with zones := zones, cursor := none } : Board).takeDirty_spec
    exact ⟨_, _, _, _, _, h⟩

theorem Board.chooseWork_spec : ∃ zs d o cur n,
    b.chooseWork = { b with zones := zs, dirty := d, op := o, cursor := cur, nextSource := n } := by
  unfold Board.chooseWork
  split
  · obtain ⟨d, o, h⟩ := b.takeDirty_spec
    exact ⟨_, _, _, _, _, h⟩
  · split
    · obtain ⟨d, o, h⟩ := ({ b with cursor := none } : Board).takeDirty_spec
      exact ⟨_, _, _, _, _, h⟩
    · split
      · obtain ⟨d, o, h⟩ := ({ b with nextSource := .cursor } : Board).takeDirty_spec
        exact ⟨_, _, _, _, _, h⟩
      · exact b.takeAtCursor_spec _

end

/-! ### The boards at a warm restart (R117) -/

/-- A board that came of another with no blank pending by choices of work. -/
structure Board.Chose (b c : Board) : Prop where
  eases : b.Eases c
  positions : c.positions = b.positions
  noBlank : c.blankPending = false

section
variable {b c : Board} {q : Position}

theorem Board.Chose.refl (h : b.blankPending = false) : b.Chose b :=
  ⟨.refl b, rfl, h⟩

theorem Board.Chose.choose (h : b.Chose c) : b.Chose c.choose := by
  rw [Board.choose_of_no_blank h.noBlank]
  obtain ⟨zs, d, o, cur, n, hwork⟩ := c.chooseWork_spec
  refine ⟨h.eases.trans c.chooseWork_eases, ?_, ?_⟩
  · rw [hwork]
    exact h.positions
  · rw [hwork]
    exact h.noBlank

/-- R104: the restarted repaint begins at position 0. -/
theorem Board.warmRestart_cursor (b : Board) :
    b.warmRestart.cursor = if b.positions = [] then none else some 0 := by
  have hlength : (b.positions.map fun q => { q with flash := false }).length = 0 ↔ b.positions = [] := by
    rw [List.length_map, List.length_eq_zero_iff]
  exact if_congr hlength rfl rfl

/-- R105, R117: an unheld first position is the restarted repaint's first work. -/
theorem Board.warmRestart_choose (hq : b.positions[0]? = some q) (hheld : (b.zone q.zone).held = false) :
    b.warmRestart.choose.op = .forming 0 .cursor ∧ b.warmRestart.choose.cursor = some 1 := by
  obtain ⟨ps, hps⟩ := List.head?_eq_some_iff.mp (List.head?_eq_getElem?.trans hq)
  have hcursor : b.warmRestart.cursor = some 0 := by
    rw [Board.warmRestart_cursor, if_neg (by simp [hps])]
  have hpositions : b.warmRestart.positions =
      { q with flash := false } :: ps.map fun q : Position => { q with flash := false } := by
    have hstopped : b.warmRestart.positions = b.positions.map fun q => { q with flash := false } := rfl
    rw [hstopped, hps, List.map_cons]
  have hpass : passHeld (b.warmRestart.positions.drop 0) 0 b.warmRestart.zones = (b.warmRestart.zones, some 0) := by
    rw [hpositions]
    exact if_neg (ne_true_of_eq_false hheld)
  have hwork : b.warmRestart.choose = b.warmRestart.takeAtCursor 0 := by
    have hroom : ¬ b.warmRestart.positions.length ≤ 0 := by simp [hpositions]
    have hdirty : b.warmRestart.dirty = [] := rfl
    rw [Board.choose_of_no_blank rfl]
    simp only [Board.chooseWork, hcursor]
    rw [if_neg hroom, if_neg fun h => h.2 hdirty]
  rw [hwork, Board.takeAtCursor, hpass]
  exact ⟨rfl, rfl⟩

end

/-! ### The blocks restarted (R173) -/

section
variable {p q : Part}

/-- R97: a kick of an IDLE Board Writer is its choice. -/
theorem Part.boardKick_board_of_idle (h : p.board.op = .idle) : p.boardKick.board = p.board.choose := by
  obtain ⟨f, hrequest⟩ := ({ p with board := p.board.choose } : Part).boardRequest_spec
  rw [Part.boardKick, if_pos h, hrequest]

theorem Board.Chose.boardKick {b : Board} (h : b.Chose p.board) : b.Chose p.boardKick.board := by
  obtain ⟨f, c, hkick, rfl | ⟨-, rfl⟩⟩ := p.boardKick_spec <;> rw [hkick]
  · exact h
  · exact h.choose

theorem Board.Chose.settle {b : Board} (h : b.Chose p.board) : b.Chose p.settle.board := by
  obtain ⟨f, c, ts, u, rs, l, hsettle, rfl | ⟨-, rfl⟩, -⟩ := p.settle_spec <;> rw [hsettle]
  · exact h
  · exact h.choose

/-- The part with its boards restarted, the blocks before them in the order of R173 done. -/
def Part.boardsRestarted (p : Part) : Part :=
  { p.formatterRestart.recallRestart.queueRestart with
    board := p.formatterRestart.recallRestart.queueRestart.board.warmRestart }

theorem Part.recallRestart_spec (p : Part) : ∃ u rs, p.recallRestart = { p with recalls := u, records := rs } := by
  obtain ⟨rs, hfold, -⟩ := p.foldl_setRecallState_spec (p.recalls.slots.map Slot.record)
  rw [Part.recallRestart, hfold]
  exact ⟨_, rs, rfl⟩

theorem Part.boardsRestarted_spec (p : Part) : ∃ f u rs l, p.boardsRestarted = { p with
    formatter := f, recalls := u, records := rs, line := l, board := p.board.warmRestart } := by
  obtain ⟨u, rs, hrecall⟩ := p.formatterRestart.recallRestart_spec
  rw [Part.boardsRestarted, hrecall]
  exact ⟨Formatter.reset, u, rs, { p.line with queue := [] }, rfl⟩

/-- R173: the ribbon, the terminals and the Console Port restarted in their turn. -/
def Part.portRestarted (p : Part) : Part :=
  { p.onTape Tape.warmRestart with
    terminals := (p.onTape Tape.warmRestart).terminals.map Terminal.warmRestart }.consoleRestart

theorem Part.warmRestart_eq (p : Part) : p.warmRestart = p.boardsRestarted.boardKick.portRestarted.settle := rfl

theorem Part.portRestarted_board (p : Part) : p.portRestarted.board = p.board := by
  obtain ⟨f, rib, htape, -⟩ := p.onTape_bare_spec Tape.warmRestart
  rw [Part.portRestarted, htape, Part.consoleRestart_board]

theorem Part.portRestarted_bare (p : Part) :
    p.portRestarted.ribbon.bare = (Tape.warmRestart p.tapeEnv ⟨p.ribbon, p.console.flags⟩).rib.bare := by
  rw [Part.portRestarted, Part.consoleRestart_ribbon]
  exact p.onTape_bare Tape.warmRestart

/-- R173: what the ribbon and the boards are when all blocks are restarted, before they choose their work. -/
theorem Part.warmRestart_spec (p : Part) : ∃ q : Part, p.warmRestart = q.settle ∧
    q.board = p.boardsRestarted.boardKick.board ∧
    q.ribbon.bare = (Tape.warmRestart p.tapeEnv ⟨p.ribbon, p.console.flags⟩).rib.bare := by
  refine ⟨_, p.warmRestart_eq, Part.portRestarted_board _, (Part.portRestarted_bare _).trans ?_⟩
  obtain ⟨f, u, rs, l, hboards⟩ := p.boardsRestarted_spec
  obtain ⟨f', b, hkick, -⟩ := p.boardsRestarted.boardKick_spec
  rw [hkick, hboards]
  rfl

/-- R143: the ribbon after a warm restart. -/
theorem Part.warmRestart_takenAnew (p : Part) :
    ∃ x y, p.ribbon.TakenAnew p.warmRestart.ribbon x y ∧ (p.clock.time = none → x = [] ∧ y = []) := by
  obtain ⟨q, hq, -, hbare⟩ := p.warmRestart_spec
  obtain ⟨x, y, htaken, hnone⟩ := Tape.warmRestart_takenAnew p.tapeEnv ⟨p.ribbon, p.console.flags⟩
  refine ⟨x, y, htaken.of_bare ?_, fun htime => hnone ?_⟩
  · rw [hq, Part.settle_ribbon]
    exact hbare
  · rw [Part.tapeEnv, htime]
    rfl

theorem Part.boardsRestarted_board (p : Part) : p.boardsRestarted.board = p.board.warmRestart := by
  obtain ⟨f, u, rs, l, h⟩ := p.boardsRestarted_spec
  rw [h]

/-- R117: the boards after a warm restart came of the restarted ones by choices of work. -/
theorem Part.warmRestart_chose (p : Part) : p.board.warmRestart.Chose p.warmRestart.board := by
  obtain ⟨q, hq, hboard, -⟩ := p.warmRestart_spec
  have hrestarted : p.board.warmRestart.Chose p.boardsRestarted.board := by
    rw [p.boardsRestarted_board]
    exact .refl rfl
  rw [hq]
  refine Board.Chose.settle ?_
  rw [hboard]
  exact hrestarted.boardKick

/-- R117: with a panel write in flight the boards await its completion. -/
theorem Part.warmRestart_board_of_busy (h : p.board.warmOp ≠ .idle) : p.warmRestart.board = p.board.warmRestart := by
  obtain ⟨q, hq, hboard, -⟩ := p.warmRestart_spec
  have hbusy : p.boardsRestarted.board.op ≠ .idle := by
    rw [p.boardsRestarted_board]
    exact h
  rw [Part.boardKick_of_busy hbusy, p.boardsRestarted_board] at hboard
  rw [hq, Part.settle_board_of_busy (by rw [hboard]; exact h), hboard]

/-- R117: otherwise the repaint begins at once, at position 0 when its zone is not HELD. -/
theorem Part.warmRestart_board_of_idle {x : Position} (h : p.board.warmOp = .idle)
    (hx : p.board.positions[0]? = some x) (hheld : (p.board.zone x.zone).held = false) :
    p.warmRestart.board.op = .forming 0 .cursor ∧ p.warmRestart.board.cursor = some 1 := by
  obtain ⟨q, hq, hboard, -⟩ := p.warmRestart_spec
  have hidle : p.boardsRestarted.board.op = .idle := by
    rw [p.boardsRestarted_board]
    exact h
  rw [Part.boardKick_board_of_idle hidle, p.boardsRestarted_board] at hboard
  obtain ⟨hop, hcursor⟩ := Board.warmRestart_choose hx hheld
  have hbusy : q.board.op ≠ .idle := by
    rw [hboard, hop]
    nofun
  rw [hq, Part.settle_board_of_busy hbusy, hboard]
  exact ⟨hop, hcursor⟩

theorem Part.commandWrite_warmRestart (h : p.console.port = .ready ∨ ∃ age, p.console.port = .busy age) :
    p.commandWrite .warmRestart = p.warmRestart := by
  obtain hready | ⟨age, hbusy⟩ := h
  · simp [Part.commandWrite, hready, Part.commandReady]
  · simp [Part.commandWrite, hbusy]

end

/-- Settles O53: the ribbon by the taking of the backlog anew, the boards by the choice of work on the restarted ones. -/
theorem warmRestartBegins : Obligations.WarmRestartBegins := by
  intro s hport urgent routine
  obtain ⟨x, y, htaken, hnone⟩ := s.part.warmRestart_takenAnew
  obtain ⟨heases, hpositions, -⟩ := s.part.warmRestart_chose
  refine ⟨_, next_onPart (Part.commandWrite_warmRestart hport), ?_⟩
  rw [State.withPart_part]
  refine ⟨⟨x, y, htaken.urgent, htaken.routine, htaken.free, htaken.atMostOne, hnone, htaken.pending⟩,
    htaken.noneSuspended, htaken.crawl, htaken.onRibbon, htaken.advance, List.sublist_nil.mp heases.dirty, hpositions,
    fun z => ⟨(heases.zone z).fixed, (heases.zone z).group, (heases.zone z).refreshOwed⟩, fun k src cs hop => ?_,
    fun k hop => ?_, fun q hq hheld hop => ?_⟩
  · have hwarm : s.part.board.warmOp = .writing k src cs := by rw [Board.warmOp, hop]
    rw [Part.warmRestart_board_of_busy (hwarm ▸ nofun)]
    exact ⟨hwarm, s.part.board.warmRestart_cursor⟩
  · have hwarm : s.part.board.warmOp = .writing k .queue (s.part.board.blankCells k) := by rw [Board.warmOp, hop]
    rw [Part.warmRestart_board_of_busy (hwarm ▸ nofun)]
    exact ⟨hwarm, s.part.board.warmRestart_cursor⟩
  · have hwarm : s.part.board.warmOp = .idle := by
      obtain hidle | ⟨k, src, hforming⟩ := hop
      · rw [Board.warmOp, hidle]
      · rw [Board.warmOp, hforming]
    exact Part.warmRestart_board_of_idle hwarm hq hheld

end Sys2Proof.Machine
end

section
/-! SUPPORT. What the limits of watch lists, keyboard lines, flag bytes, slots and answers read (R47, R55, R144, R155,
Table 10-3), and the operations of the Ribbon Feeder, the Recall Unit and the terminals that write it. -/

namespace Sys2Proof.Machine

/-! ### Flag bytes (R171, Table 10-3) -/

/-- Bits 6 and 7 of a flag byte, which name no flag. -/
def spareBits (b : Byte) : Byte :=
  b &&& 0xC0

@[simp] theorem raiseFlag_spareBits (f : EventFlag) (flags : Byte) :
    spareBits (raiseFlag f flags) = spareBits flags := by
  have hbit : f.bit &&& 0xC0#8 = 0#8 := by cases f <;> rfl
  simp [spareBits, raiseFlag, BitVec.and_or_distrib_right, hbit]

theorem Console.maskWrite_bitLaw (v : Byte) {c : Console} (h : c.BitLaw) : (c.maskWrite v).BitLaw := by
  unfold Console.maskWrite
  split
  · exact h
  · refine ⟨h.1, ?_⟩
    have henables : enableBits &&& 0xC0#8 = 0#8 := rfl
    simp [BitVec.and_assoc, henables]

theorem Console.flagsRead_bitLaw {c : Console} (h : c.BitLaw) : c.flagsRead.BitLaw := by
  unfold Console.flagsRead
  split
  · exact h
  · exact ⟨BitVec.zero_and, h.2⟩

theorem Console.dataRead_bitLaw {c : Console} (h : c.BitLaw) : c.dataRead.BitLaw := by
  unfold Console.dataRead
  split
  · exact h
  · split <;> exact h

section
variable (t : Tape) (env : TapeEnv)

@[simp] theorem Tape.makeEntry_spareBits (band : Band) (content : EntryContent) :
    spareBits (t.makeEntry band content).flags = spareBits t.flags := by
  unfold Tape.makeEntry
  split
  · rfl
  · simp only
    split <;> simp

@[simp] theorem Tape.announce_spareBits (threshold m : Nat) :
    spareBits (t.announce threshold m).flags = spareBits t.flags := by
  unfold Tape.announce
  split
  · rfl
  · split
    · split <;> simp
    · split <;> simp

@[simp] theorem Tape.sample_spareBits (trade : Nat) : spareBits (t.sample env trade).flags = spareBits t.flags := by
  unfold Tape.sample
  split
  · rfl
  · simp only
    split <;> simp

@[simp] theorem Tape.takeHead_spareBits : spareBits (t.takeHead env).flags = spareBits t.flags := by
  unfold Tape.takeHead
  split
  · rfl
  · split
    · rfl
    · simp only
      split
      · split <;> simp
      · rfl

@[simp] theorem Tape.join_spareBits (band : Band) (content : EntryContent) :
    spareBits (t.join env band content).flags = spareBits t.flags := by
  unfold Tape.join
  simp only
  split <;> simp

@[simp] theorem Tape.omitSale_spareBits : spareBits (t.omitSale env).flags = spareBits t.flags := by
  have hcounted : spareBits (if t.rib.omitted = 0 then raiseFlag .printsOmitted t.flags else t.flags) =
      spareBits t.flags := by
    split <;> simp
  unfold Tape.omitSale
  simp only
  split <;> simp [hcounted]

theorem Tape.candidate_spareBits (c : SaleContents) : spareBits (t.candidate env c).flags = spareBits t.flags := by
  unfold Tape.candidate
  simp only
  split
  · split
    · rfl
    · split
      · simp
      · split <;> simp
  · split <;> simp

theorem Tape.notice_spareBits (urgency : Nat) (text : List Byte) :
    spareBits (t.notice env urgency text).flags = spareBits t.flags := by
  unfold Tape.notice
  split <;> simp

theorem Tape.separate_spareBits (sent : Nat) (suspended : Bool) :
    spareBits (t.separate env sent suspended).flags = spareBits t.flags := by
  unfold Tape.separate
  simp only
  split
  · rfl
  · rw [Tape.takeHead_spareBits]
    split <;> rfl

theorem Tape.advance_spareBits (base : Nat) (ready : Bool) :
    spareBits (t.advance env base ready).flags = spareBits t.flags := by
  have hboundary (t : Tape) : spareBits (t.boundary env).flags = spareBits t.flags := by
    unfold Tape.boundary
    split
    · rfl
    · split
      · rfl
      · rfl
      · rfl
      · exact t.separate_spareBits env _ _
  unfold Tape.advance
  simp only
  split
  · exact hboundary _
  · rfl

end

/-! ### Slots and answers (R47, R55) -/

/-- No more slots, and answers for records that were answered before. -/
structure Recall.Within (u v : Recall) : Prop where
  slots : v.slots.length ≤ u.slots.length
  replies : (v.replies.map ReplyEntry.record).Sublist (u.replies.map ReplyEntry.record)

section
variable {u v w : Recall}

theorem Recall.Within.refl (u : Recall) : u.Within u :=
  ⟨le_rfl, List.Sublist.refl _⟩

theorem Recall.Within.trans (h : u.Within v) (h' : v.Within w) : u.Within w :=
  ⟨h'.slots.trans h.slots, h'.replies.trans h.replies⟩

theorem Recall.Within.of_same (hs : v.slots = u.slots) (hr : v.replies = u.replies) : u.Within v :=
  ⟨hs ▸ le_rfl, hr ▸ List.Sublist.refl _⟩

theorem Recall.Within.of_sublist (hs : v.slots.Sublist u.slots) (hr : v.replies.Sublist u.replies) : u.Within v :=
  ⟨hs.length_le, hr.map _⟩

/-- The limits of the Recall Unit are kept by whatever stays within it. -/
theorem Recall.Within.sizeLaw (h : u.Within v) (hu : u.SizeLaw) : v.SizeLaw := by
  obtain ⟨hslots, hreplies, hnodup⟩ := hu
  refine ⟨h.slots.trans hslots, ?_, h.replies.nodup hnodup⟩
  have hle := h.replies.length_le
  rw [List.length_map, List.length_map] at hle
  exact hle.trans hreplies

end

theorem Part.displaced_within (f : QueuedFrame) (p : Part) : p.recalls.Within (p.displaced f).recalls := by
  unfold Part.displaced
  split
  · split
    · exact .of_sublist List.filter_sublist (List.Sublist.refl _)
    · exact .refl _
  · exact .refl _

theorem Part.offer_within (b : TxBody) (p : Part) : p.recalls.Within (p.offer b).1.recalls := by
  have hjoin (q : Part) : (q.joinQueue b).recalls = q.recalls := by
    obtain ⟨l, h, -⟩ := q.joinQueue_spec b
    rw [h]
  unfold Part.offer
  split
  · exact hjoin p ▸ .refl _
  · split
    · split
      · rename_i f _
        have hdisplaced :=
          Part.displaced_within f { p with line := { p.line with queue := removeFrame f.age p.line.queue } }
        simp only [hjoin]
        exact hdisplaced
      · exact .refl _
    · exact .refl _

theorem Part.returnToHead_within (i : Nat) (p : Part) : p.recalls.Within (p.returnToHead i).recalls :=
  .of_sublist List.filter_sublist (List.Sublist.refl _)

/-! ### Watch lists and keyboard lines (R144, R155, R158) -/

/-- What a dealer has typed and what he watches. -/
def Terminal.typed (t : Terminal) : List Symbol × List Byte :=
  (t.watch, t.keyLine)

section
variable (t : Terminal)

theorem Terminal.KeyLaw.of_typed {t t' : Terminal} (h : t.KeyLaw) (ht : t'.typed = t.typed) : t'.KeyLaw := by
  obtain ⟨hwatch, hline⟩ := Prod.ext_iff.mp ht
  change t'.watch = t.watch at hwatch
  change t'.keyLine = t.keyLine at hline
  unfold Terminal.KeyLaw
  rw [hwatch, hline]
  exact h

theorem Terminal.takeLive_typed : t.takeLive.typed = t.typed := by
  unfold Terminal.takeLive
  split <;> rfl

/-- R146. -/
theorem Terminal.choose_typed (rows : List Row) : (t.choose rows).typed = t.typed := by
  unfold Terminal.choose
  split
  · rfl
  · split
    · rfl
    · split
      · rfl
      · split
        · split <;> rfl
        · split
          · rfl
          · split
            · split
              · rfl
              · exact Terminal.takeLive_typed _
            · exact t.takeLive_typed

theorem Terminal.mark_typed (changed : Nat → Option RowFields) : (t.mark changed).typed = t.typed := by
  obtain ⟨rows, h, -⟩ := t.mark_spec changed
  rw [h]
  rfl

theorem Terminal.takeNotice_typed (m : Message) : (t.takeNotice m).typed = t.typed := by
  unfold Terminal.takeNotice
  split <;> rfl

theorem Terminal.runComplete_typed : t.runComplete.typed = t.typed := by
  unfold Terminal.runComplete
  split <;> rfl

theorem Terminal.formed_typed (job : TermJob) (text : FormedText) : (t.formed job text).typed = t.typed := by
  unfold Terminal.formed
  split <;> rfl

theorem Terminal.highlightExpiry_typed (i : Nat) : (t.highlightExpiry i).typed = t.typed := by
  unfold Terminal.highlightExpiry
  split
  · split <;> rfl
  · rfl

/-- A terminal that watches nothing and holds no key. -/
theorem Terminal.keyLaw_of_reset {t : Terminal} (h : t.typed = ([], [])) : t.KeyLaw :=
  Terminal.KeyLaw.of_typed (t := Terminal.reset) ⟨Nat.zero_le _, List.nodup_nil, Nat.zero_le _⟩ h

variable {t}

/-- An empty line keeps its limit, whatever is watched. -/
theorem Terminal.KeyLaw.of_watch {t' : Terminal} (h : t.KeyLaw) (hwatch : t'.watch = t.watch)
    (hline : t'.keyLine = []) : t'.KeyLaw := by
  obtain ⟨hlen, hnodup, -⟩ := h
  unfold Terminal.KeyLaw
  rw [hwatch, hline]
  exact ⟨hlen, hnodup, Nat.zero_le _⟩

/-- R155. -/
theorem Terminal.KeyLaw.keep (h : t.KeyLaw) (b : Byte) : (t.keep b).KeyLaw := by
  have hcleared : (if t.shows = .keys then t else { t with shows := .keys, keyLine := [] }).KeyLaw := by
    split
    · exact h
    · exact h.of_watch rfl rfl
  unfold Terminal.keep
  simp only
  set t₁ := if t.shows = .keys then t else { t with shows := .keys, keyLine := [] }
  obtain ⟨hlen, hnodup, hline⟩ := hcleared
  split
  · rename_i hroom
    refine ⟨hlen, hnodup, ?_⟩
    rw [List.length_append]
    exact hroom.1
  · exact ⟨hlen, hnodup, hline⟩

theorem Terminal.KeyLaw.eraseKey (h : t.KeyLaw) : t.eraseKey.KeyLaw := by
  unfold Terminal.eraseKey
  split
  · obtain ⟨hlen, hnodup, hline⟩ := h
    exact ⟨hlen, hnodup, t.keyLine.dropLast_sublist.length_le.trans hline⟩
  · exact h

/-- R158: a symbol joins a watch list only when it is not on it and the list has room. -/
theorem Terminal.KeyLaw.perform (h : t.KeyLaw) (held : Symbol → Bool) (c : KeyCommand) :
    (t.perform held c).KeyLaw := by
  obtain ⟨hlen, hnodup, hline⟩ := h
  cases c with
  | page n | watch | unknown => exact ⟨hlen, hnodup, hline⟩
  | add s =>
    unfold Terminal.perform
    simp only
    split
    · exact ⟨hlen, hnodup, hline⟩
    · split
      · exact ⟨hlen, hnodup, hline⟩
      · rename_i hnew
        split
        · exact ⟨hlen, hnodup, hline⟩
        · rename_i hroom
          have hlonger : (t.watch ++ [s]).length ≤ Config.watchPlaces := by
            rw [List.length_append]
            exact Nat.lt_of_not_le hroom
          exact ⟨hlonger, List.concat_eq_append ▸ hnodup.concat (by simpa using hnew), hline⟩
  | remove s =>
    unfold Terminal.perform
    simp only
    split
    · exact ⟨List.filter_sublist.length_le.trans hlen, hnodup.filter _, hline⟩
    · exact ⟨hlen, hnodup, hline⟩
  | detail s =>
    unfold Terminal.perform
    simp only
    split <;> exact ⟨hlen, hnodup, hline⟩

theorem Terminal.KeyLaw.returnKey (h : t.KeyLaw) (held : Symbol → Bool) : (t.returnKey held).KeyLaw := by
  have hemptied : ({ t with keyLine := [], overflow := false, commandOwed := true } : Terminal).KeyLaw :=
    h.of_watch rfl rfl
  unfold Terminal.returnKey
  simp only
  split
  · exact hemptied
  · exact hemptied.perform held _

/-- R155, R156: every key keeps the terminal's limits. -/
theorem Terminal.KeyLaw.key (h : t.KeyLaw) (held : Symbol → Bool) (b : Byte) : (t.key held b).KeyLaw := by
  unfold Terminal.key
  split
  · exact h
  · split
    · exact h.keep b
    · split
      · exact h.eraseKey
      · split
        · exact h.returnKey held
        · exact h

theorem Terminal.KeyLaw.warmRestart (h : t.KeyLaw) : t.warmRestart.KeyLaw := by
  unfold Terminal.warmRestart
  split
  · exact h
  · exact h.of_watch rfl rfl

end

end Sys2Proof.Machine
end

section
/-! The limits of watch lists, keyboard lines, flag bytes, slots and answers (R47, R55, R144, R155, Table 10-3) are kept
by every operation of a running station. -/

namespace Sys2Proof.Machine

/-- From one part to another every terminal, the flag bytes and the Recall Unit keep their limits. -/
structure Part.KeepsLimits (p q : Part) : Prop where
  keys : ∀ k, (p.terminal k).KeyLaw → (q.terminal k).KeyLaw
  bits : p.console.BitLaw → q.console.BitLaw
  sizes : p.recalls.SizeLaw → q.recalls.SizeLaw

section
variable {p q r : Part}

namespace Part.KeepsLimits

theorem refl (p : Part) : p.KeepsLimits p :=
  ⟨fun _ => id, id, id⟩

theorem trans (h : p.KeepsLimits q) (h' : q.KeepsLimits r) : p.KeepsLimits r :=
  ⟨fun k hk => h'.keys k (h.keys k hk), fun hb => h'.bits (h.bits hb), fun hs => h'.sizes (h.sizes hs)⟩

/-- An operation that writes no terminal and no flag byte, and leaves the Recall Unit within what it was. -/
theorem of_within (ht : q.terminals = p.terminals) (hf : q.console.flags = p.console.flags)
    (hm : q.console.mask = p.console.mask) (hr : p.recalls.Within q.recalls) : p.KeepsLimits q := by
  refine ⟨fun k hk => ?_, fun hb => ?_, hr.sizeLaw⟩
  · rw [Part.terminal, ht]
    exact hk
  · rw [Console.BitLaw, hf, hm]
    exact hb

theorem of_same (ht : q.terminals = p.terminals) (hf : q.console.flags = p.console.flags)
    (hm : q.console.mask = p.console.mask) (hr : q.recalls = p.recalls) : p.KeepsLimits q :=
  of_within ht hf hm (hr ▸ .refl _)

/-- An operation on one terminal. -/
theorem of_setTerminal {k : TerminalId} {x : Terminal} (hx : (p.terminal k).KeyLaw → x.KeyLaw) :
    p.KeepsLimits (p.setTerminal k x) := by
  refine ⟨fun j hj => ?_, id, id⟩
  by_cases hjk : j = k
  · subst hjk
    rw [Part.terminal_setTerminal_self]
    exact hx hj
  · rw [Part.terminal_setTerminal_of_ne p hjk]
    exact hj

/-- An operation on every terminal. -/
theorem of_mapTerminals {f : Terminal → Terminal} (hf : ∀ t : Terminal, t.KeyLaw → (f t).KeyLaw) :
    p.KeepsLimits { p with terminals := p.terminals.map f } := by
  refine ⟨fun k hk => ?_, id, id⟩
  rw [Part.terminal, get_terminals_map]
  exact hf _ hk

/-- R171: a flag raised. -/
theorem raise (h : p.KeepsLimits q) (f : EventFlag) : p.KeepsLimits (q.raise f) := by
  refine ⟨h.keys, fun hb => ?_, h.sizes⟩
  obtain ⟨hflags, hmask⟩ := h.bits hb
  exact ⟨(raiseFlag_spareBits f _).trans hflags, hmask⟩

end Part.KeepsLimits

/-! ### The Formatter and its requesters (R25, R26, R97, R131, R146) -/

variable (p)

theorem Part.withBoard_keepsLimits (b : Board) : p.KeepsLimits { p with board := b } :=
  .of_same rfl rfl rfl rfl

theorem Part.endFormation_keepsLimits : p.KeepsLimits p.endFormation := by
  obtain ⟨f, rib, h, -⟩ := p.endFormation_spec
  rw [h]
  exact .of_same rfl rfl rfl rfl

theorem Part.boardRequest_keepsLimits : p.KeepsLimits p.boardRequest := by
  obtain ⟨f, h⟩ := p.boardRequest_spec
  rw [h]
  exact .of_same rfl rfl rfl rfl

theorem Part.boardKick_keepsLimits : p.KeepsLimits p.boardKick := by
  obtain ⟨f, b, h, -⟩ := p.boardKick_spec
  rw [h]
  exact .of_same rfl rfl rfl rfl

theorem Part.termKick_keepsLimits (k : TerminalId) : p.KeepsLimits (p.termKick k) := by
  obtain ⟨f, x, h, hx⟩ := p.termKick_spec k
  have hlaw (hk : (p.terminal k).KeyLaw) : x.KeyLaw := by
    rcases hx with rfl | rfl
    · exact hk
    · exact hk.of_typed (Terminal.choose_typed _ _)
  rw [h]
  exact (Part.KeepsLimits.of_setTerminal hlaw).trans (.of_same rfl rfl rfl rfl)

theorem Part.termsKick_keepsLimits : p.KeepsLimits p.termsKick := by
  obtain ⟨f, ts, h, hts⟩ := p.termsKick_spec
  rw [h]
  exact ⟨fun k hk => hts k Terminal.KeyLaw hk fun x rows hx => hx.of_typed (x.choose_typed rows), id, id⟩

theorem Part.ribbonRequest_keepsLimits : p.KeepsLimits p.ribbonRequest := by
  obtain ⟨f, rib, h, -⟩ := p.ribbonRequest_spec
  rw [h]
  exact .of_same rfl rfl rfl rfl

/-- R171: an operation of the Ribbon Feeder that raises named flags alone. -/
theorem Part.onTape_keepsLimits {g : TapeEnv → Tape → Tape}
    (hg : ∀ env t, spareBits (g env t).flags = spareBits t.flags) : p.KeepsLimits (p.onTape g) := by
  obtain ⟨f, rib, h, -⟩ := p.onTape_spec g
  rw [h]
  refine ⟨fun _ => id, fun hb => ?_, id⟩
  obtain ⟨hflags, hmask⟩ := hb
  exact ⟨(hg _ _).trans hflags, hmask⟩

theorem Part.tapeCandidate_keepsLimits (c : SaleContents) : p.KeepsLimits (p.tapeCandidate c) := by
  unfold Part.tapeCandidate
  split
  · exact p.onTape_keepsLimits fun env t => t.candidate_spareBits env c
  · exact .refl p

theorem Part.noticeArrives_keepsLimits (u : Nat) (text : List Byte) : p.KeepsLimits (p.noticeArrives u text) := by
  unfold Part.noticeArrives
  split
  · have htape := p.onTape_keepsLimits fun env t => t.notice_spareBits env u text
    exact htape.trans (.of_mapTerminals fun t ht => ht.of_typed (t.takeNotice_typed _))
  · exact .refl p

/-! ### The Transmit Queue and the Recall Unit (R47 to R62, R69 to R72) -/

theorem Part.takeFrame_keepsLimits : p.KeepsLimits p.takeFrame := by
  obtain ⟨l, h, -⟩ := p.takeFrame_spec
  rw [h]
  exact .of_same rfl rfl rfl rfl

theorem Part.offer_keepsLimits (b : TxBody) : p.KeepsLimits (p.offer b).1 := by
  have hwithin := p.offer_within b
  obtain ⟨u, rs, l, h, -⟩ := p.offer_spec b
  rw [h] at hwithin ⊢
  exact .of_within rfl rfl rfl hwithin

theorem Part.offerOwn_keepsLimits (b : TxBody) : p.KeepsLimits (p.offerOwn b) := by
  unfold Part.offerOwn
  split
  · exact .refl p
  · exact p.offer_keepsLimits b

theorem Part.returnToHead_keepsLimits (i : Nat) : p.KeepsLimits (p.returnToHead i) :=
  .of_within rfl rfl rfl (p.returnToHead_within i)

/-- R47, R48: a record fills a slot, of which one is free. -/
theorem Part.queueRecall_keepsLimits (i : Nat) (hroom : p.recalls.slots.length < Config.recallSlots) :
    p.KeepsLimits (p.queueRecall i) := by
  unfold Part.queueRecall
  simp only
  set q : Part := ({ p with
    recalls := { p.recalls with
      slots := p.recalls.slots ++ [{ record := i, sendCount := 1, phase := .awaitingOutcome p.line.nextAge }]
      paceRunning := true } } : Part).setRecallState i .outstanding with hq
  have hfilled : p.KeepsLimits q := by
    refine ⟨fun _ => id, id, fun ⟨_, hreplies⟩ => ⟨?_, hreplies⟩⟩
    rw [hq, Part.setRecallState_recalls, List.length_append]
    exact hroom
  have hoffered := hfilled.trans (q.offer_keepsLimits (.recallFor i))
  split
  · exact hoffered
  · exact hoffered.trans (Part.returnToHead_keepsLimits _ i)

theorem Part.recallTest_keepsLimits : p.KeepsLimits p.recallTest := by
  unfold Part.recallTest
  split
  · split
    · rename_i rest _ hmay
      have hlist : p.KeepsLimits { p with recalls := { p.recalls with list := rest } } :=
        .of_within rfl rfl rfl (.of_same rfl rfl)
      simp only [Part.mayRecall, Bool.and_eq_true, decide_eq_true_eq] at hmay
      obtain ⟨⟨⟨hroom, -⟩, -⟩, -⟩ := hmay
      exact hlist.trans (Part.queueRecall_keepsLimits _ _ hroom)
    · exact .refl p
  · exact .refl p

variable {p} in
theorem Part.KeepsLimits.recallTest (h : p.KeepsLimits q) : p.KeepsLimits q.recallTest :=
  h.trans q.recallTest_keepsLimits

theorem Part.paceExpiry_keepsLimits : p.KeepsLimits p.paceExpiry := by
  unfold Part.paceExpiry
  split
  · exact Part.KeepsLimits.recallTest (.of_within rfl rfl rfl (.of_same rfl rfl))
  · exact .refl p

theorem Part.resend_keepsLimits (i : Nat) : p.KeepsLimits (p.resend i) := by
  unfold Part.resend
  simp only
  set q : Part := { p with
    recalls := { p.recalls with
      slots := p.recalls.slots.map fun sl =>
        if sl.record = i then
          { sl with sendCount := sl.sendCount + 1, phase := .awaitingOutcome p.line.nextAge }
        else sl
      paceRunning := true } }
  have hresent : p.KeepsLimits q := .of_within rfl rfl rfl ⟨by simp [q], List.Sublist.refl _⟩
  have hoffered := hresent.trans (q.offer_keepsLimits (.recallFor i))
  split
  · exact hoffered
  · exact hoffered.trans (Part.returnToHead_keepsLimits _ i)

theorem Part.freeSlot_keepsLimits (i : Nat) : p.KeepsLimits (p.freeSlot i) := by
  obtain ⟨l, h, -⟩ := p.freeSlot_spec i
  rw [h]
  exact .of_within rfl rfl rfl (.of_sublist List.filter_sublist (List.Sublist.refl _))

theorem Part.waitExpiry_keepsLimits (i : Nat) : p.KeepsLimits (p.waitExpiry i) := by
  have hfree (x : RecallState) : p.KeepsLimits ((p.freeSlot i).setRecallState i x) :=
    (p.freeSlot_keepsLimits i).trans (.of_same rfl rfl rfl rfl)
  unfold Part.waitExpiry
  split
  · split
    · exact .refl p
    · split
      · exact (p.freeSlot_keepsLimits i).trans (.of_within rfl rfl rfl (.of_same rfl rfl))
      · split
        · exact (p.resend_keepsLimits i).recallTest
        · exact ((hfree .unanswered).raise .recallUnanswered).recallTest
  · exact .refl p

/-- R53: a slot is filled only while one is free. -/
theorem Part.suppress_keepsLimits (i : Nat) (r : Record) : p.KeepsLimits (p.suppress i r) := by
  unfold Part.suppress
  split
  · split
    · rename_i hroom
      refine ⟨fun _ => id, id, fun ⟨_, hreplies⟩ => ⟨?_, hreplies⟩⟩
      rw [Part.setRecallState_recalls, List.length_append]
      exact hroom
    · exact .refl p
  · split
    · split
      · split
        · exact .of_within rfl rfl rfl ⟨by simp, List.Sublist.refl _⟩
        · exact .refl p
      · exact .refl p
    · exact .refl p
  · exact .refl p
  · exact .refl p

theorem Part.queueReply_keepsLimits (i : Nat) : p.KeepsLimits (p.queueReply i) := by
  have hrecord (age : Nat) : ReplyEntry.record ∘ (fun e : ReplyEntry =>
      if e.record = i then { e with phase := .queued age } else e) = ReplyEntry.record := by
    funext e
    simp only [Function.comp]
    split <;> rfl
  unfold Part.queueReply
  simp only
  set q : Part := { p with
    recalls := { p.recalls with
      replies := p.recalls.replies.map fun e =>
        if e.record = i then { e with phase := .queued p.line.nextAge } else e } }
  have hqueued : p.KeepsLimits q := .of_within rfl rfl rfl ⟨le_rfl, by simp [q, hrecord]⟩
  have hoffered := hqueued.trans (q.offer_keepsLimits (.reply i))
  split
  · exact hoffered
  · exact hoffered.trans (.of_within rfl rfl rfl (.of_sublist (List.Sublist.refl _) List.filter_sublist))

theorem Part.holdoffExpiry_keepsLimits (i : Nat) : p.KeepsLimits (p.holdoffExpiry i) := by
  unfold Part.holdoffExpiry
  split
  · split
    · split
      · exact p.queueReply_keepsLimits i
      · exact .of_within rfl rfl rfl (.of_sublist (List.Sublist.refl _) List.filter_sublist)
    · exact .refl p
  · exact .refl p

/-- R54, R55: an answer is held only for a record that has none, and while a place is free. -/
theorem Part.answer_keepsLimits (i : Nat) (r : Record) : p.KeepsLimits (p.answer i r) := by
  unfold Part.answer
  split
  · rename_i hmay
    simp only [Bool.and_eq_true, Bool.not_eq_true', List.any_eq_false, beq_iff_eq, decide_eq_true_eq] at hmay
    obtain ⟨⟨-, hnew⟩, hroom⟩ := hmay
    simp only
    set q : Part := { p with
      recalls := { p.recalls with
        replies := p.recalls.replies ++ [{ record := i, phase := .holding (holdoffMs r.home p.settings.station) }] } }
      with hq
    have hheld : p.KeepsLimits q := by
      refine ⟨fun _ => id, id, fun ⟨hslots, _, hnodup⟩ => ⟨hslots, ?_, ?_⟩⟩
      · rw [hq, List.length_append]
        exact hroom
      · rw [hq, List.map_append]
        exact List.concat_eq_append ▸ hnodup.concat (by simpa using hnew)
    split
    · exact hheld.trans (q.holdoffExpiry_keepsLimits i)
    · exact hheld
  · exact .refl p

theorem Part.recallHeard_keepsLimits (x : Symbol) (d : Day) : p.KeepsLimits (p.recallHeard x d) := by
  unfold Part.recallHeard
  split
  · exact .refl p
  · split
    · exact .refl p
    · split
      · exact (p.suppress_keepsLimits _ _).trans (Part.answer_keepsLimits _ _ _)
      · exact .refl p

theorem Part.recallSent_keepsLimits (age : Nat) : p.KeepsLimits (p.recallSent age) :=
  .of_within rfl rfl rfl ⟨by simp [Part.recallSent], List.Sublist.refl _⟩

theorem Part.replyOutcome_keepsLimits (age : Nat) : p.KeepsLimits (p.replyOutcome age) :=
  .of_within rfl rfl rfl (.of_sublist (List.Sublist.refl _) List.filter_sublist)

theorem Part.dropReply_keepsLimits (i : Nat) : p.KeepsLimits (p.dropReply i) := by
  obtain ⟨rs, l, h, hrs, -⟩ := p.dropReply_spec i
  rw [h]
  exact .of_within rfl rfl rfl (.of_sublist (List.Sublist.refl _) hrs)

/-! ### Judgement and rollovers (R6, R12, R19, R21 to R24) -/

theorem Part.makeDoubtful_keepsLimits (i : Nat) : p.KeepsLimits (p.makeDoubtful i) := by
  have hlisted {q : Part} (hq : q.recalls.slots = p.recalls.slots ∧ q.recalls.replies = p.recalls.replies)
      (ht : q.terminals = p.terminals) (hc : q.console = p.console) : p.KeepsLimits q :=
    .of_within ht (hc ▸ rfl) (hc ▸ rfl) (.of_same hq.1 hq.2)
  unfold Part.makeDoubtful
  split
  · exact .refl p
  · simp only
    split
    · split
      · refine Part.KeepsLimits.trans ?_ (Part.dropReply_keepsLimits _ i)
        exact hlisted ⟨rfl, rfl⟩ rfl rfl
      · exact hlisted ⟨rfl, rfl⟩ rfl rfl
    · exact hlisted ⟨rfl, rfl⟩ rfl rfl

theorem Part.satisfyRecall_keepsLimits (i : Nat) (before : RecallState) : p.KeepsLimits (p.satisfyRecall i before) := by
  obtain ⟨l, h, -⟩ := p.satisfyRecall_spec i before
  rw [h]
  refine .of_within rfl rfl rfl (.of_sublist ?_ (List.Sublist.refl _))
  simp only
  split
  · exact List.filter_sublist
  · exact List.Sublist.refl _

theorem Part.applyContents_keepsLimits (c : Contents) (i : Nat) (r : Record) :
    p.KeepsLimits (p.applyContents c i r) := by
  have happlied : p.KeepsLimits (p.applied c i r) := by
    obtain ⟨b, h⟩ := Part.applied_spec c i r p
    rw [h]
    exact .of_same rfl rfl rfl rfl
  cases hg : c.gate r with
  | ignored =>
    rw [Part.applyContents_of_ignored hg]
    exact .refl p
  | applied doubt =>
    by_cases hc : ∃ x, c = .reply x
    · obtain ⟨x, rfl⟩ := hc
      rw [Part.applyContents_reply hg]
      exact happlied.trans (Part.satisfyRecall_keepsLimits _ i _)
    · rw [Part.applyContents_report (fun x hx => hc ⟨x, hx⟩) hg]
      split
      · exact happlied.trans (Part.makeDoubtful_keepsLimits _ i)
      · exact happlied

theorem Part.adoptDay_keepsLimits (d : Day) : p.KeepsLimits (p.adoptDay d) := by
  unfold Part.adoptDay
  split
  · exact .of_same rfl rfl rfl rfl
  · exact .refl p

theorem Part.judgeCore_keepsLimits (c : Contents) : p.KeepsLimits (p.judgeCore c) := by
  have hday := p.adoptDay_keepsLimits c.day
  unfold Part.judgeCore
  split
  · simp only
    split
    · exact hday
    · split
      · exact hday
      · split
        · exact hday.trans (Part.applyContents_keepsLimits _ c _ _)
        · exact hday
  · split
    · exact p.makeDoubtful_keepsLimits _
    · exact .refl p

theorem Part.markDependents_keepsLimits (old : List Record) : p.KeepsLimits (p.markDependents old) := by
  have hrows : p.KeepsLimits { p with terminals := p.terminals.map (Terminal.mark (changedRecord old p.records)) } :=
    .of_mapTerminals fun t ht => ht.of_typed (t.mark_typed _)
  exact hrows.trans (.of_same rfl rfl rfl rfl)

theorem Part.judge_keepsLimits (c : Contents) : p.KeepsLimits (p.judge c) :=
  (p.judgeCore_keepsLimits c).trans (Part.markDependents_keepsLimits _ _)

theorem Part.replyHeard_keepsLimits (c : ReplyContents) : p.KeepsLimits (p.replyHeard c) := by
  unfold Part.replyHeard
  refine Part.KeepsLimits.trans ?_ (Part.judge_keepsLimits _ _)
  split
  · split
    · split
      · exact p.dropReply_keepsLimits _
      · exact .refl p
    · exact .refl p
  · exact .refl p

theorem Part.rollover_keepsLimits (f : Record → Record) (x : SessionDay) : p.KeepsLimits (p.rollover f x) :=
  Part.KeepsLimits.trans (q := { p with records := p.records.map f, clock := { p.clock with session := some x } })
    (.of_same rfl rfl rfl rfl) (Part.markDependents_keepsLimits _ p.records)

/-! ### Session Clock and Timetable (R79 to R90) -/

theorem Part.settle_keepsLimits : p.KeepsLimits p.settle :=
  (p.boardKick_keepsLimits.trans (Part.termsKick_keepsLimits _)).recallTest

variable {p} in
theorem Part.KeepsLimits.settle (h : p.KeepsLimits q) : p.KeepsLimits q.settle :=
  h.trans q.settle_keepsLimits

theorem Part.blankAtClose_keepsLimits : p.KeepsLimits p.blankAtClose := by
  unfold Part.blankAtClose
  split
  · exact .of_same rfl rfl rfl rfl
  · exact .refl p

theorem Part.openAction_keepsLimits : p.KeepsLimits p.openAction := by
  unfold Part.openAction
  split
  · exact (p.rollover_keepsLimits _ _).trans (Part.offerOwn_keepsLimits _ _)
  · exact .refl p

theorem Part.closeAction_keepsLimits : p.KeepsLimits p.closeAction := by
  unfold Part.closeAction
  split
  · exact ((p.rollover_keepsLimits _ _).trans (Part.offerOwn_keepsLimits _ _)).trans (Part.blankAtClose_keepsLimits _)
  · exact .refl p

theorem Part.sessionHeard_keepsLimits (d : Day) (phase : Nat) : p.KeepsLimits (p.sessionHeard d phase) := by
  unfold Part.sessionHeard
  split
  · exact .of_same rfl rfl rfl rfl
  · exact .of_same rfl rfl rfl rfl
  · split
    · exact (p.rollover_keepsLimits _ _).trans (Part.blankAtClose_keepsLimits _)
    · exact .refl p
  · split
    · exact p.rollover_keepsLimits _ _
    · exact .refl p
  · exact .refl p

theorem Part.performAction_keepsLimits (hour minute : Nat) (a : TimetableAction) :
    p.KeepsLimits (p.performAction hour minute a) := by
  refine Part.KeepsLimits.settle ?_
  cases a with
  | openSession => exact p.openAction_keepsLimits
  | closeSession => exact p.closeAction_keepsLimits
  | tapeTime => exact p.onTape_keepsLimits fun env t => t.join_spareBits env .routine (.tapeTime hour minute)
  | repaint => exact .of_same rfl rfl rfl rfl
  | sendClock =>
    simp only
    split
    · exact p.offerOwn_keepsLimits .clock
    · exact .refl p

theorem Part.minuteBoundary_keepsLimits (t : TimeOfDay) : p.KeepsLimits (p.minuteBoundary t) := by
  have hfold (hour minute : Nat) (es : List TimetableEntry) (q : Part) :
      q.KeepsLimits (es.foldl (fun q e => q.performAction hour minute e.action) q) := by
    induction es generalizing q with
    | nil => exact .refl q
    | cons e es ih =>
      rw [List.foldl_cons]
      exact (q.performAction_keepsLimits hour minute e.action).trans (ih _)
  exact hfold _ _ _ p

theorem Part.secondExpiry_keepsLimits : p.KeepsLimits p.secondExpiry := by
  unfold Part.secondExpiry
  split
  · exact .refl p
  · rename_i t _
    have ht : p.KeepsLimits (p.setTime t.advance) := .of_same rfl rfl rfl rfl
    simp only
    split
    · exact ht.trans (Part.minuteBoundary_keepsLimits _ _)
    · exact ht

theorem Part.setClock_keepsLimits (t : TimeOfDay) (day : Option Day) : p.KeepsLimits (p.setClock t day) := by
  unfold Part.setClock
  simp only
  split <;> exact .of_same rfl rfl rfl rfl

theorem Part.clockHeard_keepsLimits (w h m s : Nat) : p.KeepsLimits (p.clockHeard w h m s) := by
  unfold Part.clockHeard
  split
  · exact .of_same rfl rfl rfl rfl
  · exact .refl p

/-! ### Frames heard and frames sent (R64 to R68, R74) -/

theorem Part.saleArrives_keepsLimits (c : SaleContents) : p.KeepsLimits (p.saleArrives c) :=
  ((p.judge_keepsLimits (.sale c)).trans (Part.boardKick_keepsLimits _)).trans (Part.tapeCandidate_keepsLimits _ c)

theorem Part.handFrame_keepsLimits (b : FrameBody) : p.KeepsLimits (p.handFrame b) := by
  cases b with
  | sale c => exact p.saleArrives_keepsLimits c
  | quote c => exact p.judge_keepsLimits (.quote c)
  | state c => exact p.judge_keepsLimits (.state c)
  | recallFor s d => exact p.recallHeard_keepsLimits s d
  | reply c => exact p.replyHeard_keepsLimits c
  | notice u t => exact p.noticeArrives_keepsLimits u t
  | session d ph => exact p.sessionHeard_keepsLimits d ph
  | clock w hr m s => exact p.clockHeard_keepsLimits w hr m s
  | hold g a => exact .of_same rfl rfl rfl rfl

theorem Part.checkOrigin_keepsLimits (origin : Nat) : p.KeepsLimits (p.checkOrigin origin) := by
  unfold Part.checkOrigin
  split
  · refine Part.KeepsLimits.raise ?_ .duplicateStation
    exact .of_same rfl rfl rfl rfl
  · exact .refl p

theorem Part.judgeFrame_keepsLimits (bytes : List Byte) : p.KeepsLimits (p.judgeFrame bytes) := by
  unfold Part.judgeFrame
  split
  · exact .refl p
  · exact ((p.checkOrigin_keepsLimits _).trans (Part.handFrame_keepsLimits _ _)).settle

theorem Part.endOfTransmission_keepsLimits (bytes : List Byte) : p.KeepsLimits (p.endOfTransmission bytes) := by
  have hquiet : p.KeepsLimits (p.onLine Line.becomeQuiet) := .of_same rfl rfl rfl rfl
  unfold Part.endOfTransmission
  split
  · exact .refl p
  · simp only
    split
    · exact hquiet.trans (Part.judgeFrame_keepsLimits _ bytes)
    · exact hquiet

theorem Part.handOn_keepsLimits (b : TxBody) : p.KeepsLimits (p.handOn b) := by
  cases b with
  | sale c => exact p.saleArrives_keepsLimits c
  | quote c => exact p.judge_keepsLimits (.quote c)
  | state c => exact p.judge_keepsLimits (.state c)
  | notice u t => exact p.noticeArrives_keepsLimits u t
  | hold g a => exact .of_same rfl rfl rfl rfl
  | recallFor i | reply i | session d ph | clock => exact .refl p

theorem Part.entryOutcome_keepsLimits (f : QueuedFrame) (sent : Bool) : p.KeepsLimits (p.entryOutcome f sent) := by
  have hand {q : Part} (hq : p.KeepsLimits q) : p.KeepsLimits (if sent then (q.handOn f.body).settle else q) := by
    split
    · exact (hq.trans (q.handOn_keepsLimits f.body)).settle
    · exact hq
  unfold Part.entryOutcome
  split
  · exact hand (.of_same rfl rfl rfl rfl)
  · split
    · exact hand (.of_same rfl rfl rfl rfl)
    · exact .refl p

theorem Part.ownerOutcome_keepsLimits (f : QueuedFrame) (sent : Bool) : p.KeepsLimits (p.ownerOutcome f sent) := by
  unfold Part.ownerOutcome
  cases f.body with
  | recallFor i => exact p.recallSent_keepsLimits f.age
  | reply i => exact p.replyOutcome_keepsLimits f.age
  | session d ph | clock => exact .refl p
  | sale c | quote c | state c | notice u text | hold g a => exact p.entryOutcome_keepsLimits f sent

theorem Part.endSend_keepsLimits (sent : Bool) : p.KeepsLimits (p.endSend sent) := by
  unfold Part.endSend
  split
  · exact .refl p
  · rename_i x _
    have hidle (q : Part) : q.KeepsLimits (q.onLine fun l => { l with current := none }) := .of_same rfl rfl rfl rfl
    exact ((p.ownerOutcome_keepsLimits x.frame sent).trans (hidle _)).trans (Part.takeFrame_keepsLimits _)

theorem Part.sendComplete_keepsLimits : p.KeepsLimits p.sendComplete := by
  unfold Part.sendComplete
  split
  · exact p.endSend_keepsLimits true
  · exact .refl p

theorem Part.clash_keepsLimits : p.KeepsLimits p.clash := by
  unfold Part.clash
  split
  · exact .refl p
  · split
    · exact .refl p
    · split
      · exact .of_same rfl rfl rfl rfl
      · exact p.endSend_keepsLimits false

/-! ### Console (R162 to R173) -/

theorem Part.finish_keepsLimits (r : ResultCode) : p.KeepsLimits (p.finish r) :=
  .of_same rfl rfl rfl rfl

theorem Part.offerEntry_keepsLimits (b : TxBody) : p.KeepsLimits (p.offerEntry b) := by
  have hoffered := p.offer_keepsLimits b
  unfold Part.offerEntry
  simp only
  split
  · refine Part.KeepsLimits.recallTest (hoffered.trans ?_)
    exact .of_same rfl rfl rfl rfl
  · refine hoffered.trans ?_
    exact .of_same rfl rfl rfl rfl

variable {p} in
theorem Part.Answered.keepsLimits (h : p.Answered q) : p.KeepsLimits q := by
  cases h with
  | finished r => exact p.finish_keepsLimits r
  | offered b => exact p.offerEntry_keepsLimits b

theorem Part.judgeReadRecord_keepsLimits (bs : List Byte) : p.KeepsLimits (p.judgeReadRecord bs) := by
  unfold Part.judgeReadRecord
  split <;> exact .of_same rfl rfl rfl rfl

theorem Part.judgeSetClock_keepsLimits (bs : List Byte) : p.KeepsLimits (p.judgeSetClock bs) := by
  unfold Part.judgeSetClock
  simp only
  split
  · exact Part.KeepsLimits.recallTest ((p.setClock_keepsLimits _ _).trans (Part.finish_keepsLimits _ .done))
  · exact .of_same rfl rfl rfl rfl

theorem Part.judgeBody_keepsLimits (c : ConsoleCommand) (bs : List Byte) : p.KeepsLimits (p.judgeBody c bs) := by
  cases c with
  | enterSale => exact (p.judgeSale_answered bs).keepsLimits
  | enterQuote => exact (p.judgeQuote_answered bs).keepsLimits
  | enterState => exact (p.judgeState_answered bs).keepsLimits
  | enterNotice => exact (p.judgeNotice_answered bs).keepsLimits
  | hold => exact (p.judgeHold_answered bs).keepsLimits
  | release => exact (p.judgeRelease_answered bs).keepsLimits
  | readRecord => exact p.judgeReadRecord_keepsLimits bs
  | setClock => exact p.judgeSetClock_keepsLimits bs
  | clearStatus | abortClear | repaint | blank | warmRestart | unknown => exact .of_same rfl rfl rfl rfl

theorem Part.dataWrite_keepsLimits (v : Byte) : p.KeepsLimits (p.dataWrite v) := by
  unfold Part.dataWrite
  split
  · split <;> exact .of_same rfl rfl rfl rfl
  · split
    · exact .of_same rfl rfl rfl rfl
    · exact p.judgeBody_keepsLimits _ _
  · exact .refl p

/-- R62, R160, R173: no slot and no answer is left, and every keyboard line is empty. -/
theorem Part.warmRestart_keepsLimits : p.KeepsLimits p.warmRestart := by
  have hboards : p.KeepsLimits p.boardsRestarted := by
    obtain ⟨f, u, rs, l, h⟩ := p.boardsRestarted_spec
    have hempty : p.boardsRestarted.recalls.SizeLaw := ⟨Nat.zero_le _, Nat.zero_le _, List.nodup_nil⟩
    rw [h] at hempty ⊢
    exact ⟨fun _ => id, id, fun _ => hempty⟩
  have hport (q : Part) : q.KeepsLimits q.portRestarted := by
    have htape := q.onTape_keepsLimits (g := Tape.warmRestart) fun env t => Tape.takeHead_spareBits _ env
    have hterminals := htape.trans (.of_mapTerminals fun t ht => ht.warmRestart)
    exact hterminals.trans (.of_same rfl rfl rfl rfl)
  rw [p.warmRestart_eq]
  exact ((hboards.trans (Part.boardKick_keepsLimits _)).trans (hport _)).settle

theorem Part.commandReady_keepsLimits (c : ConsoleCommand) : p.KeepsLimits (p.commandReady c) := by
  have hresult (q : Part) (r : ResultCode) : q.KeepsLimits (q.setResult r) := .of_same rfl rfl rfl rfl
  have hkick (b : Board) (r : ResultCode) : p.KeepsLimits (({ p with board := b } : Part).boardKick.setResult r) :=
    ((p.withBoard_keepsLimits b).trans (Part.boardKick_keepsLimits _)).trans (hresult _ r)
  cases c with
  | warmRestart => exact p.warmRestart_keepsLimits
  | repaint | blank => exact hkick _ _
  | enterSale | enterQuote | enterState | enterNotice | hold | release | readRecord | setClock | clearStatus
  | abortClear | unknown => exact .of_same rfl rfl rfl rfl

theorem Part.commandWrite_keepsLimits (c : ConsoleCommand) : p.KeepsLimits (p.commandWrite c) := by
  unfold Part.commandWrite
  split
  · exact p.commandReady_keepsLimits c
  · exact .of_same rfl rfl rfl rfl
  · split
    · exact .of_same rfl rfl rfl rfl
    · exact p.warmRestart_keepsLimits
    · exact .of_same rfl rfl rfl rfl
  · split <;> exact .of_same rfl rfl rfl rfl
  · exact .refl p
  · exact .refl p

theorem Part.onConsole_keepsLimits {f : Console → Console} (hf : ∀ c : Console, c.BitLaw → (f c).BitLaw) :
    p.KeepsLimits (p.onConsole f) :=
  ⟨fun _ => id, hf _, id⟩

/-! ### Boards, ribbon and terminals (R96 to R103, R129, R132, R146 to R156) -/

theorem Part.boardFormed_keepsLimits : p.KeepsLimits p.boardFormed := by
  unfold Part.boardFormed
  split
  · split
    · refine Part.KeepsLimits.trans ?_ (Part.endFormation_keepsLimits _)
      exact (p.withBoard_keepsLimits _).trans (Part.boardRequest_keepsLimits _)
    · exact .refl p
  · exact .refl p

theorem Part.ribbonFormed_keepsLimits : p.KeepsLimits p.ribbonFormed := by
  unfold Part.ribbonFormed
  split
  · rename_i slot text whole _
    have hwritten : p.KeepsLimits (({ p with ribbon := p.ribbon.formed slot text } : Part).writeLastWhole whole) := by
      unfold Part.writeLastWhole
      split <;> exact .of_same rfl rfl rfl rfl
    exact (hwritten.trans (Part.ribbonRequest_keepsLimits _)).trans (Part.endFormation_keepsLimits _)
  · exact .refl p

theorem Part.terminalFormed_keepsLimits : p.KeepsLimits p.terminalFormed := by
  unfold Part.terminalFormed
  split
  · split
    · refine Part.KeepsLimits.trans ?_ (Part.endFormation_keepsLimits _)
      exact .of_setTerminal fun h => h.of_typed (Terminal.formed_typed _ _ _)
    · exact .refl p
  · exact .refl p

theorem Part.panelWriteComplete_keepsLimits : p.KeepsLimits p.panelWriteComplete := by
  unfold Part.panelWriteComplete
  split
  · exact .refl p
  · exact .refl p
  · exact (p.withBoard_keepsLimits _).trans (Part.boardRequest_keepsLimits _)

theorem Part.flashExpiry_keepsLimits (k : Nat) : p.KeepsLimits (p.flashExpiry k) := by
  unfold Part.flashExpiry
  split
  · split
    · exact (p.withBoard_keepsLimits _).trans (Part.boardKick_keepsLimits _)
    · exact .refl p
  · exact .refl p

theorem Part.advanceExpiry_keepsLimits (ready : Bool) : p.KeepsLimits (p.advanceExpiry ready) := by
  unfold Part.advanceExpiry
  split
  · exact .refl p
  · split
    · exact p.onTape_keepsLimits fun env t => t.advance_spareBits env _ ready
    · exact .of_same rfl rfl rfl rfl
    · exact .refl p
    · exact .refl p

theorem Part.runComplete_keepsLimits (k : TerminalId) : p.KeepsLimits (p.runComplete k) := by
  unfold Part.runComplete
  split
  · have hfree := Part.KeepsLimits.of_setTerminal (p := p) fun h => h.of_typed (p.terminal k).runComplete_typed
    exact hfree.trans (Part.termKick_keepsLimits _ k)
  · exact .refl p

theorem Part.highlightExpiry_keepsLimits (k : TerminalId) (row : Nat) : p.KeepsLimits (p.highlightExpiry k row) := by
  unfold Part.highlightExpiry
  split
  · exact .refl p
  · split
    · split
      · have hemptied := Part.KeepsLimits.of_setTerminal (p := p) fun h =>
          h.of_typed ((p.terminal k).highlightExpiry_typed (row - 1))
        exact hemptied.trans (Part.termKick_keepsLimits _ k)
      · exact .refl p
    · exact .refl p

theorem Part.keyReceived_keepsLimits (k : TerminalId) (b : Byte) (fault : Bool) :
    p.KeepsLimits (p.keyReceived k b fault) := by
  unfold Part.keyReceived
  split
  · exact .refl p
  · exact (Part.KeepsLimits.of_setTerminal fun h => h.key _ b).trans (Part.termKick_keepsLimits _ k)

/-! ### The load (R175 to R178) -/

theorem Part.warnIf_keepsLimits (w : Bool) : p.KeepsLimits (p.warnIf w) := by
  unfold Part.warnIf
  split
  · exact (Part.KeepsLimits.refl p).raise .configWarning
  · exact .refl p

variable {p} in
theorem Part.KeepsLimits.warnIf (h : p.KeepsLimits q) (w : Bool) : p.KeepsLimits (q.warnIf w) :=
  h.trans (q.warnIf_keepsLimits w)

theorem Part.takeInstrument_keepsLimits (x : InstrumentItem) : p.KeepsLimits (p.takeInstrument x) := by
  unfold Part.takeInstrument
  split
  · exact p.warnIf_keepsLimits true
  · refine Part.KeepsLimits.warnIf ?_ _
    exact .of_same rfl rfl rfl rfl

theorem Part.takeZone_keepsLimits (x : ZoneItem) : p.KeepsLimits (p.takeZone x) := by
  unfold Part.takeZone
  split
  · split
    · exact p.warnIf_keepsLimits true
    · refine Part.KeepsLimits.warnIf ?_ _
      exact .of_same rfl rfl rfl rfl
  · exact p.warnIf_keepsLimits true

theorem Part.takePosition_keepsLimits (x : PositionItem) : p.KeepsLimits (p.takePosition x) := by
  unfold Part.takePosition
  split
  · exact .of_same rfl rfl rfl rfl
  · exact p.warnIf_keepsLimits true

theorem Part.takePage_keepsLimits (n : Nat) (ss : List Symbol) : p.KeepsLimits (p.takePage n ss) := by
  unfold Part.takePage
  split
  · exact p.warnIf_keepsLimits true
  · refine Part.KeepsLimits.warnIf ?_ _
    exact .of_same rfl rfl rfl rfl

theorem Part.takeTimetable_keepsLimits (x : TimetableItem) : p.KeepsLimits (p.takeTimetable x) := by
  unfold Part.takeTimetable
  split
  · exact .of_same rfl rfl rfl rfl
  · exact p.warnIf_keepsLimits true

theorem readItem_keepsLimits {sec : ImageSection} {bs rest : List Byte} {take : Part → Part}
    (h : readItem sec bs = .got take rest) : p.KeepsLimits (take p) := by
  cases sec with
  | header | layouts =>
    simp only [readItem] at h
    split at h <;> cases h
    refine Part.KeepsLimits.warnIf ?_ _
    exact .of_same rfl rfl rfl rfl
  | instruments =>
    simp only [readItem] at h
    split at h <;> cases h
    exact p.takeInstrument_keepsLimits _
  | zones =>
    simp only [readItem] at h
    split at h <;> cases h
    exact p.takeZone_keepsLimits _
  | positions =>
    simp only [readItem] at h
    split at h <;> cases h
    exact p.takePosition_keepsLimits _
  | pages =>
    simp only [readItem] at h
    split at h <;> cases h
    exact p.takePage_keepsLimits _ _
  | timetable =>
    simp only [readItem] at h
    split at h <;> cases h
    exact p.takeTimetable_keepsLimits _

variable {p} in
/-- Where every terminal is as after a reset, so far as its limits go, and no slot and no answer is held. -/
theorem Part.KeepsLimits.of_restarted (ht : ∀ k, (q.terminal k).typed = ([], []))
    (hb : p.console.BitLaw → q.console.BitLaw) (hs : q.recalls.slots = []) (hr : q.recalls.replies = []) :
    p.KeepsLimits q := by
  refine ⟨fun k _ => Terminal.keyLaw_of_reset (ht k), hb, fun _ => ?_⟩
  rw [Recall.SizeLaw, hs, hr]
  exact ⟨Nat.zero_le _, Nat.zero_le _, List.nodup_nil⟩

theorem get_replicate_terminal (x : Terminal) (k : TerminalId) : (Vector.replicate 8 x).get k = x :=
  Vector.getElem_replicate (n := 8) (a := x) k.isLt

theorem Part.fullReset_keepsLimits : p.KeepsLimits p.fullReset :=
  .of_restarted (fun k => congrArg Terminal.typed (get_replicate_terminal _ k))
    (fun _ => ⟨BitVec.zero_and, BitVec.zero_and⟩) rfl rfl

theorem Part.configFault_keepsLimits : p.KeepsLimits p.configFault :=
  .of_restarted (fun k => congrArg Terminal.typed (get_replicate_terminal _ k)) id rfl rfl

theorem Part.itemRead_keepsLimits (bytes : List Byte) : p.KeepsLimits (p.itemRead bytes) := by
  have hloader (q : Part) (f : Loader → Loader) : q.KeepsLimits (q.onLoader f) := .of_same rfl rfl rfl rfl
  unfold Part.itemRead
  split
  · exact .refl p
  · simp only
    split
    · exact hloader p _
    · exact p.configFault_keepsLimits
    · rename_i hitem
      exact ((hloader p _).trans (readItem_keepsLimits _ hitem)).trans (hloader _ _)

/-- R159, R174: at the lock every terminal starts anew, and the flags stand. -/
theorem Part.startingValues_keepsLimits : p.KeepsLimits p.startingValues := by
  refine .of_restarted (fun k => ?_) (fun ⟨hflags, _⟩ => ⟨hflags, BitVec.zero_and⟩) rfl rfl
  have hterminal : p.startingValues.terminal k = if p.settings.inUse k then Terminal.atLock else Terminal.reset :=
    Vector.getElem_ofFn k.isLt
  rw [hterminal]
  split <;> rfl

theorem Part.loadCompletion_keepsLimits (balance : Word16) : p.KeepsLimits (p.loadCompletion balance) := by
  unfold Part.loadCompletion
  split
  · split
    · exact p.startingValues_keepsLimits.settle
    · exact p.configFault_keepsLimits
  · exact .refl p

variable {p} in
theorem Part.KeepsLimits.whenRunning {f : Part → Part} (h : p.KeepsLimits (f p)) :
    p.KeepsLimits (p.whenRunning f) := by
  unfold Part.whenRunning
  split
  · exact h
  · exact .refl p

end

/-! ### Every command -/

/-- Every command has a next state, which keeps the limits. -/
theorem exec_keepsLimits (c : Instr) (s : State) : ∃ t, exec c s = .next t ∧ s.part.KeepsLimits t.part := by
  have hcommand (x : ConsoleCommand) := s.part.commandWrite_keepsLimits x
  have hkey (k : TerminalId) (b : Byte) (fault : Bool) :
      s.part.KeepsLimits (s.part.whenRunning (Part.keyReceived k b fault)) :=
    .whenRunning (s.part.keyReceived_keepsLimits k b fault)
  cases c with
  | fullReset => exact ⟨_, rfl, s.part.fullReset_keepsLimits⟩
  | configItemRead bytes => exact ⟨_, rfl, s.part.itemRead_keepsLimits bytes⟩
  | loadCompletion balance => exact ⟨_, rfl, s.part.loadCompletion_keepsLimits balance⟩
  | endOfTransmission bytes => exact ⟨_, rfl, s.part.endOfTransmission_keepsLimits bytes⟩
  | lineBusy => exact ⟨_, rfl, .of_same rfl rfl rfl rfl⟩
  | interframeGapExpiry | backoffExpiry => exact ⟨_, rfl, .whenRunning (.of_same rfl rfl rfl rfl)⟩
  | sendComplete => exact ⟨_, rfl, .whenRunning s.part.sendComplete_keepsLimits⟩
  | clash => exact ⟨_, rfl, .whenRunning s.part.clash_keepsLimits⟩
  | paceExpiry => exact ⟨_, rfl, .whenRunning s.part.paceExpiry_keepsLimits⟩
  | waitExpiry i => exact ⟨_, rfl, .whenRunning (s.part.waitExpiry_keepsLimits i)⟩
  | holdoffExpiry i => exact ⟨_, rfl, .whenRunning (s.part.holdoffExpiry_keepsLimits i)⟩
  | boardFormationCompletion => exact ⟨_, rfl, .whenRunning s.part.boardFormed_keepsLimits⟩
  | ribbonFormationCompletion => exact ⟨_, rfl, .whenRunning s.part.ribbonFormed_keepsLimits⟩
  | terminalFormationCompletion => exact ⟨_, rfl, .whenRunning s.part.terminalFormed_keepsLimits⟩
  | secondTimerExpiry => exact ⟨_, rfl, .whenRunning s.part.secondExpiry_keepsLimits⟩
  | panelWriteCompletion => exact ⟨_, rfl, s.part.panelWriteComplete_keepsLimits⟩
  | flashTimerExpiry k => exact ⟨_, rfl, .whenRunning (s.part.flashExpiry_keepsLimits k)⟩
  | advanceExpiry ready => exact ⟨_, rfl, s.part.advanceExpiry_keepsLimits ready⟩
  | outputRunCompletion k => exact ⟨_, rfl, s.part.runComplete_keepsLimits k⟩
  | highlightExpiry k row => exact ⟨_, rfl, .whenRunning (s.part.highlightExpiry_keepsLimits k row)⟩
  | keyCharacter k b fault => exact ⟨_, rfl, hkey k b fault⟩
  | backspace k => exact ⟨_, rfl, hkey k backspaceCode false⟩
  | selectPage k | selectWatch k | addToWatch k | removeFromWatch k | showDetail k | unknownCommand k =>
    exact ⟨_, rfl, hkey k returnCode false⟩
  | enterSale | enterQuote | enterState | enterNotice | hold | release | readRecord | setClock | clearStatus
  | abortClear | repaint | blank | warmRestart => exact ⟨_, rfl, hcommand _⟩
  | unknownCommandCode code => exact ⟨_, rfl, hcommand _⟩
  | dataWrite v => exact ⟨_, rfl, s.part.dataWrite_keepsLimits v⟩
  | dataRead => exact ⟨_, rfl, s.part.onConsole_keepsLimits fun _ => Console.dataRead_bitLaw⟩
  | flagsRead => exact ⟨_, rfl, s.part.onConsole_keepsLimits fun _ => Console.flagsRead_bitLaw⟩
  | maskWrite v => exact ⟨_, rfl, s.part.onConsole_keepsLimits fun _ => Console.maskWrite_bitLaw v⟩
  | ignoredRegisterWrite v => exact ⟨_, rfl, .refl _⟩

/-- Settles O10: a step is idle or one command, and every command keeps the limits. -/
theorem limitLawsKept : Obligations.LimitLawsKept := by
  intro s t hstep
  have hkeeps : s.part.KeepsLimits t.part :=
    holds_after_step (P := s.part.KeepsLimits) (fun c s' h => by
      obtain ⟨t', ht', hnext⟩ := exec_keepsLimits c s'
      exact ⟨t', ht', h.trans hnext⟩) (.refl _) hstep
  exact ⟨fun h k => hkeeps.keys k (h k), hkeeps.bits, hkeeps.sizes⟩

end Sys2Proof.Machine
end

section
/-! The runs and highlights of the dealer terminals (R146, R149, R151, R152). -/

namespace Sys2Proof.Machine

/-! ### The choice of a free terminal (R146) -/

/-- A terminal that owes nothing but its rows. -/
structure Terminal.Settled (t : Terminal) : Prop where
  redraw : t.redrawOwed = false
  command : t.commandOwed = false
  message : t.messageOwed = false
  detail : t.detailOwed = none

section
variable {t : Terminal}

/-- R149: the next row of a drawing is requested. -/
theorem Terminal.choose_of_drawing (rows : List Row) (h : t.Settled) (hfree : t.step = none)
    (hstate : t.state = .drawing) (hcursor : t.drawCursor ≤ t.rows.length) :
    t.choose rows = { t with step := some (.request (.draw (t.drawCursor - 1))) } := by
  simp [Terminal.choose, h.redraw, h.command, h.message, h.detail, hfree, hstate, hcursor]

/-- R146: a LIVE terminal whose rows stand has nothing to do. -/
theorem Terminal.choose_of_live (rows : List Row) (h : t.Settled) (hfree : t.step = none) (hstate : t.state = .live)
    (hrows : ∀ r ∈ t.rows, r.pending = false) : t.choose rows = t := by
  have hnone : t.rows.findIdx? (·.pending) = none := List.findIdx?_eq_none_iff.mpr hrows
  simp [Terminal.choose, Terminal.takeLive, h.redraw, h.command, h.message, h.detail, hfree, hstate, hnone]

end

section
variable {p : Part} {k : TerminalId} {y : Terminal}

/-- R25, R126: a terminal's request changes the Formatter alone. -/
theorem Part.request_terminal_spec (k : TerminalId) (job : TermJob) (p : Part) :
    ∃ f, p.request (.terminal k job) = { p with formatter := f } := by
  obtain ⟨f, rib, h, rfl | rfl⟩ := p.request_spec (.terminal k job) <;> exact ⟨f, h⟩

theorem Part.termKick_of_request {job : TermJob} (hfree : (p.terminal k).step = none)
    (hchoose : (p.terminal k).choose (p.freshRows (p.terminal k)) = y) (hy : y.step = some (.request job)) :
    ∃ f, p.termKick k = { p.setTerminal k y with formatter := f } := by
  obtain ⟨f, h⟩ := (p.setTerminal k y).request_terminal_spec k job
  exact ⟨f, by simp only [Part.termKick, hfree, Option.isSome_none, hchoose, hy, Bool.false_eq_true, if_false, h]⟩

theorem Part.termKick_of_idle (hfree : (p.terminal k).step = none)
    (hchoose : (p.terminal k).choose (p.freshRows (p.terminal k)) = p.terminal k) : p.termKick k = p := by
  simp [Part.termKick, hfree, hchoose]

/-! ### Runs that leave the line (R146, R149) -/

theorem Part.runComplete_of_run {job : TermJob} {chars : List OutChar}
    (hstep : (p.terminal k).step = some (.run job chars)) :
    p.runComplete k = (p.setTerminal k (p.terminal k).runComplete).termKick k := by
  simp only [Part.runComplete, hstep]

/-- R149: after the run of a drawing row that is not the last, the next row is requested. -/
theorem Part.runComplete_of_row {i : Nat} {chars : List OutChar} (h : (p.terminal k).Settled)
    (hstep : (p.terminal k).step = some (.run (.draw i) chars)) (hstate : (p.terminal k).state = .drawing)
    (hi : i + 1 < (p.terminal k).rows.length) :
    ∃ f, p.runComplete k = { p.setTerminal k { p.terminal k with
      drawCursor := i + 2, step := some (.request (.draw (i + 1))) } with formatter := f } := by
  have hfreed : (p.terminal k).runComplete = { p.terminal k with step := none, drawCursor := i + 2 } := by
    simp only [Terminal.runComplete, hstep]
  set x : Terminal := { p.terminal k with step := none, drawCursor := i + 2 }
  have hx : x.Settled := ⟨h.redraw, h.command, h.message, h.detail⟩
  rw [Part.runComplete_of_run hstep, hfreed]
  have hself : (p.setTerminal k x).terminal k = x := p.terminal_setTerminal_self k x
  have hchoose : x.choose ((p.setTerminal k x).freshRows x) = { x with step := some (.request (.draw (i + 1))) } :=
    x.choose_of_drawing _ hx rfl hstate hi
  obtain ⟨f, hkick⟩ := Part.termKick_of_request (p := p.setTerminal k x) (by rw [hself]) (by rw [hself, hchoose]) rfl
  rw [Part.setTerminal_setTerminal] at hkick
  exact ⟨f, hkick⟩

/-- R146: after the run of the keyboard line a LIVE terminal whose rows stand is free. -/
theorem Part.runComplete_of_live {job : TermJob} {chars : List OutChar} (h : (p.terminal k).Settled)
    (hjob : ∀ i, job ≠ .draw i) (hstep : (p.terminal k).step = some (.run job chars))
    (hstate : (p.terminal k).state = .live) (hrows : ∀ r ∈ (p.terminal k).rows, r.pending = false) :
    p.runComplete k = p.setTerminal k { p.terminal k with step := none } := by
  have hfreed : (p.terminal k).runComplete = { p.terminal k with step := none } := by
    cases job with
    | draw i => exact absurd rfl (hjob i)
    | heading | command | message | detail s | live i new | faultClear => simp only [Terminal.runComplete, hstep]
  set x : Terminal := { p.terminal k with step := none }
  have hx : x.Settled := ⟨h.redraw, h.command, h.message, h.detail⟩
  rw [Part.runComplete_of_run hstep, hfreed]
  refine Part.termKick_of_idle ?_ ?_
  · rw [Part.terminal_setTerminal_self]
  · rw [Part.terminal_setTerminal_self]
    exact x.choose_of_live _ hx rfl hstate hrows

/-! ### Highlights (R152) -/

theorem Part.highlightExpiry_of_lit {i : Nat} {r : Row} (hr : (p.terminal k).rows[i]? = some r)
    (hlit : r.highlight = true) (hbusy : (p.terminal k).step.isSome = true) :
    p.highlightExpiry k (i + 1) = p.setTerminal k { p.terminal k with
      rows := (p.terminal k).rows.set i { r with lit := RowFields.empty, highlight := false, pending := true } } := by
  have hterminal : (p.terminal k).highlightExpiry i = { p.terminal k with
      rows := (p.terminal k).rows.set i { r with lit := RowFields.empty, highlight := false, pending := true } } := by
    simp only [Terminal.highlightExpiry, hr, hlit, if_true, modify_eq_set_of_getElem? _ hr]
  have hexpiry : p.highlightExpiry k (i + 1) = (p.setTerminal k ((p.terminal k).highlightExpiry i)).termKick k := by
    simp [Part.highlightExpiry, hr, hlit]
  rw [hexpiry, hterminal]
  refine Part.termKick_of_busy k _ ?_
  rw [Part.terminal_setTerminal_self]
  exact hbusy

/-! ### Formed rows (R149, R151) -/

theorem Part.terminalFormed_of_forming {job : TermJob} {text : FormedText}
    (hf : p.formatter.forming = some (.terminal k job, text)) (hstep : (p.terminal k).step = some (.request job)) :
    p.terminalFormed = (p.setTerminal k ((p.terminal k).formed job text)).endFormation := by
  simp only [Part.terminalFormed, hf, hstep, if_true]

end

/-- R151: a live row's run begins, with the fields lit before and the new ones. -/
theorem Terminal.formed_live {t : Terminal} {i : Nat} {r : Row} (new : RowFields) (texts : List (List Glyph))
    (hr : t.rows[i]? = some r) :
    t.formed (.live i new) (.row texts) = { t with
      rows := t.rows.set i
        { r with lit := r.lit.union new, highlight := r.highlight || decide (new ≠ RowFields.empty) }
      step := some (.run (.live i new) (rowRun i (r.lit.union new) texts)) } := by
  have hnew : (!new.isEmpty) = decide (new ≠ RowFields.empty) := by
    by_cases h : new = RowFields.empty <;> simp [RowFields.isEmpty, h]
  simp only [Terminal.formed, hr, Option.map_some, Option.getD_some, modify_eq_set_of_getElem? _ hr, hnew]

/-- What a formed row comes to: the terminal's run, and the Formatter's next choice with the number it may bind. -/
theorem exec_terminalFormationCompletion {s : State} {k : TerminalId} {job : TermJob} {text : FormedText} {x : Terminal}
    (hrun : s.part.running = true) (hf : s.part.formatter.forming = some (.terminal k job, text))
    (hstep : (s.part.terminal k).step = some (.request job)) (hx : (s.part.terminal k).formed job text = x) :
    ∃ f rib, exec .terminalFormationCompletion s =
      .next (s.withPart { s.part.setTerminal k x with formatter := f, ribbon := rib }) := by
  obtain ⟨f, rib, hend, -⟩ := (s.part.setTerminal k x).endFormation_spec
  exact ⟨f, rib, next_whenRunning hrun ((Part.terminalFormed_of_forming hf hstep).trans (hx ▸ hend))⟩

/-- Settles O38: the terminal takes its formed row, and the Formatter's choice that follows reaches no other block. -/
theorem terminalRunBegins : Obligations.TerminalRunBegins := by
  intro s k texts hrun
  refine ⟨fun i hf hstep => ?_, fun i new r hf hstep hr => ?_⟩
  · obtain ⟨f, rib, hexec⟩ := exec_terminalFormationCompletion hrun hf hstep rfl
    exact ⟨_, hexec, rfl, rfl, rfl, rfl, rfl, rfl, rfl⟩
  · obtain ⟨f, rib, hexec⟩ := exec_terminalFormationCompletion hrun hf hstep (Terminal.formed_live new texts hr)
    exact ⟨_, hexec, rfl, rfl, rfl, rfl, rfl, rfl, rfl⟩

/-- Settles O46: a run that ends frees the terminal, which then chooses; a highlight that ends marks its row. -/
theorem runsAndHighlightsEnd : Obligations.RunsAndHighlightsEnd := by
  refine ⟨fun s k chars _ hredraw hcommand hmessage hdetail => ?_, fun s k i r hrun hr hlit hbusy => ?_⟩
  · have hsettled : (s.part.terminal k).Settled := ⟨hredraw, hcommand, hmessage, hdetail⟩
    refine ⟨fun i hstep hstate hi => ?_, fun hstep hstate hrows => ?_⟩
    · obtain ⟨f, hrow⟩ := Part.runComplete_of_row hsettled hstep hstate hi
      exact ⟨_, next_onPart hrow, rfl, rfl, rfl, rfl, rfl, rfl, rfl, rfl⟩
    · exact next_onPart (Part.runComplete_of_live (job := .command) hsettled nofun hstep hstate hrows)
  · exact next_whenRunning hrun (Part.highlightExpiry_of_lit hr hlit hbusy)

end Sys2Proof.Machine
end

section
/-! A dealer's keys: the keyboard line (R155), and the commands of the return key (R154, R156 to R158). -/

namespace Sys2Proof.Machine

/-! ### A key at one terminal (R155, R156) -/

theorem Terminal.keep_step (b : Byte) (t : Terminal) : (t.keep b).step = t.step := by
  unfold Terminal.keep
  simp only
  split <;> split <;> rfl

theorem Terminal.perform_step (held : Symbol → Bool) (c : KeyCommand) (t : Terminal) :
    (t.perform held c).step = t.step := by
  cases c with
  | page n | watch | unknown => rfl
  | add s =>
    unfold Terminal.perform
    simp only
    split
    · rfl
    · split
      · rfl
      · split <;> rfl
  | remove s | detail s =>
    unfold Terminal.perform
    simp only
    split <;> rfl

/-- A key leaves the step in flight. -/
theorem Terminal.key_step (held : Symbol → Bool) (b : Byte) (t : Terminal) : (t.key held b).step = t.step := by
  unfold Terminal.key
  split
  · rfl
  · split
    · exact t.keep_step b
    · split
      · unfold Terminal.eraseKey
        split <;> rfl
      · split
        · unfold Terminal.returnKey
          simp only
          split
          · rfl
          · exact Terminal.perform_step held _ _
        · rfl

/-- A key reaches its terminal and the Formatter alone. -/
theorem Part.keyReceived_spec (k : TerminalId) (b : Byte) (fault : Bool) (p : Part) :
    ∃ f x, p.keyReceived k b fault = { p.setTerminal k x with formatter := f } := by
  unfold Part.keyReceived
  split
  · exact ⟨p.formatter, p.terminal k, by rw [Part.setTerminal_terminal]⟩
  · obtain ⟨f, x, h, -⟩ :=
      (p.setTerminal k ((p.terminal k).key (fun s => (p.lookup s).isSome) b)).termKick_spec k
    exact ⟨f, x, by rw [h, Part.setTerminal_setTerminal]⟩

/-- R155, R144: a key with a framing fault, or at an UNUSED terminal, is ignored. -/
theorem Part.keyReceived_of_ignored {p : Part} {k : TerminalId} {b : Byte} {fault : Bool}
    (h : fault = true ∨ (p.terminal k).state = .unused) : p.keyReceived k b fault = p :=
  if_pos h

/-- A key at a terminal that is not free changes that terminal alone. -/
theorem Part.keyReceived_of_busy {p : Part} {k : TerminalId} (b : Byte) (hused : (p.terminal k).state ≠ .unused)
    (hbusy : (p.terminal k).step.isSome = true) :
    p.keyReceived k b false = p.setTerminal k ((p.terminal k).key (fun s => (p.lookup s).isSome) b) := by
  have hkey : p.keyReceived k b false =
      (p.setTerminal k ((p.terminal k).key (fun s => (p.lookup s).isSome) b)).termKick k :=
    if_neg (by simpa using hused)
  rw [hkey]
  refine Part.termKick_of_busy k _ ?_
  rw [Part.terminal_setTerminal_self, Terminal.key_step]
  exact hbusy

/-- What a key makes of a terminal in use that is not free is what the command makes of the state. -/
theorem next_key {s : State} {k : TerminalId} {b : Byte} {x : Terminal} (hrun : s.part.running = true)
    (hused : (s.part.terminal k).state ≠ .unused) (hbusy : (s.part.terminal k).step.isSome = true)
    (hx : (s.part.terminal k).key (fun y => (s.part.lookup y).isSome) b = x) :
    (.next (s.onPart (Part.whenRunning (Part.keyReceived k b false))) : Host.Outcome State Fault Refusal) =
      .next (s.withPart (s.part.setTerminal k x)) :=
  next_whenRunning hrun (hx ▸ Part.keyReceived_of_busy b hused hbusy)

/-- Every keyboard row is a key at its terminal. -/
theorem exec_of_keyOf {k : TerminalId} {c : Instr} (h : Instr.keyOf k c = true) (s : State) :
    ∃ b fault, exec c s = .next (s.onPart (Part.whenRunning (Part.keyReceived k b fault))) := by
  cases c with
  | keyCharacter u b fault =>
    obtain rfl : u = k := beq_iff_eq.mp h
    exact ⟨b, fault, rfl⟩
  | backspace u =>
    obtain rfl : u = k := beq_iff_eq.mp h
    exact ⟨backspaceCode, false, rfl⟩
  | selectPage u | selectWatch u | addToWatch u | removeFromWatch u | showDetail u | unknownCommand u =>
    obtain rfl : u = k := beq_iff_eq.mp h
    exact ⟨returnCode, false, rfl⟩
  | _ => cases h

/-- Settles O49: every keyboard row is a key at its terminal, and a key reaches that terminal and the Formatter. -/
theorem keysReachOneTerminal : Obligations.KeysReachOneTerminal := by
  intro s t k c hkey hexec
  obtain ⟨b, fault, hc⟩ := exec_of_keyOf hkey s
  have hspec : ∃ f x, s.part.whenRunning (Part.keyReceived k b fault) =
      { s.part.setTerminal k x with formatter := f } := by
    unfold Part.whenRunning
    split
    · exact s.part.keyReceived_spec k b fault
    · exact ⟨s.part.formatter, s.part.terminal k, by rw [Part.setTerminal_terminal]⟩
  obtain ⟨f, x, hpart⟩ := hspec
  obtain rfl : t = s.withPart { s.part.setTerminal k x with formatter := f } := by
    rw [hc, next_onPart hpart] at hexec
    cases hexec
    rfl
  exact ⟨fun j hj => s.part.terminal_setTerminal_of_ne hj x, rfl, rfl, rfl, rfl, rfl, rfl, rfl, rfl, rfl⟩

/-! ### The keyboard line (R155) -/

section
variable {t : Terminal} {b : Byte} {held : Symbol → Bool}

theorem Terminal.key_of_kept (hused : t.state ≠ .unused) (hb : isKeptKey b = true) : t.key held b = t.keep b := by
  simp [Terminal.key, hused, hb]

theorem Terminal.key_backspace (hused : t.state ≠ .unused) : t.key held backspaceCode = t.eraseKey := by
  have hkept : isKeptKey backspaceCode = false := by decide
  simp [Terminal.key, hused, hkept]

theorem Terminal.key_return (hused : t.state ≠ .unused) : t.key held returnCode = t.returnKey held := by
  have hkept : isKeptKey returnCode = false := by decide
  have hother : returnCode ≠ backspaceCode := by decide
  simp [Terminal.key, hused, hkept, hother]

/-- The letters, digits and signs that a keyboard line keeps. -/
def KeptKey (b : Byte) : Prop :=
  (65 ≤ b.toNat ∧ b.toNat ≤ 90) ∨ (97 ≤ b.toNat ∧ b.toNat ≤ 122) ∨ (48 ≤ b.toNat ∧ b.toNat ≤ 57) ∨
    b = 32 ∨ b = 43 ∨ b = 45 ∨ b = 63

theorem KeptKey.isKeptKey (h : KeptKey b) : isKeptKey b = true := by
  simp only [Machine.isKeptKey, isCapital, isSmall, isDigit, Bool.or_eq_true, Bool.and_eq_true, decide_eq_true_eq]
  rcases h with h | h | h | rfl | rfl | rfl | rfl
  · exact .inl (.inl (.inl h))
  · exact .inl (.inl (.inr h))
  · exact .inl (.inr h)
  all_goals exact .inr rfl

theorem KeptKey.capital (h : KeptKey b) : capital b = if 97 ≤ b.toNat then b - 32 else b := by
  have hsmall : isSmall b = true ↔ 97 ≤ b.toNat := by
    simp only [isSmall, Bool.and_eq_true, decide_eq_true_eq, and_iff_left_iff_imp]
    rcases h with h | h | h | rfl | rfl | rfl | rfl
    · omega
    · omega
    · omega
    all_goals decide
  simp only [Machine.capital, hsmall]

/-- R155: a key kept by a line that shows keys and has not overflowed. -/
theorem Terminal.keep_of_keys (b : Byte) (hshows : t.shows = .keys) (ho : t.overflow = false) :
    t.keep b = if t.keyLine.length < 16 then
        { t with keyLine := t.keyLine ++ [capital b], commandOwed := true }
      else { t with overflow := true, bellOwed := true, commandOwed := true } := by
  by_cases hroom : t.keyLine.length < 16 <;> simp [Terminal.keep, hshows, ho, Config.keyPlaces, hroom]

theorem Terminal.eraseKey_of_line {line : List Byte} {c : Byte} (ho : t.overflow = false)
    (hline : t.keyLine = line ++ [c]) : t.eraseKey = { t with keyLine := line, commandOwed := true } := by
  simp [Terminal.eraseKey, ho, hline]

end

/-- Settles O47: a key that is ignored, one that the line keeps, and the backspace. -/
theorem keysEditLine : Obligations.KeysEditLine := by
  intro s k b hrun
  refine ⟨next_whenRunning hrun (Part.keyReceived_of_ignored (.inl rfl)),
    fun hunused => next_whenRunning hrun (Part.keyReceived_of_ignored (.inr hunused)),
    fun hused hbusy hshows ho => ⟨fun hb => ?_, fun line c hline => ?_⟩⟩
  · have hkept : KeptKey b := hb
    refine next_key hrun hused hbusy ?_
    rw [Terminal.key_of_kept hused hkept.isKeptKey, Terminal.keep_of_keys b hshows ho, hkept.capital]
  · refine next_key hrun hused hbusy ?_
    rw [Terminal.key_backspace hused, Terminal.eraseKey_of_line ho hline]

/-! ### Lines without outer spaces, and what they spell (R156, Table 8-4) -/

section
variable {bs : List Byte}

theorem dropWhile_space_of_head (h : bs.head? ≠ some spaceCode) : bs.dropWhile (· == spaceCode) = bs := by
  cases bs with
  | nil => rfl
  | cons b bs =>
    have hb : (b == spaceCode) = false := by simpa using h
    rw [List.dropWhile_cons, hb]
    rfl

theorem trimSpaces_of_ends (hfirst : bs.head? ≠ some spaceCode) (hlast : bs.getLast? ≠ some spaceCode) :
    trimSpaces bs = bs := by
  rw [trimSpaces, dropWhile_space_of_head hfirst, dropWhile_space_of_head (by rwa [List.head?_reverse]),
    List.reverse_reverse]

/-- A number spelled by digits is spelled by no space. -/
theorem space_not_mem_of_readPageNumber {n : Nat} (h : readPageNumber bs = some n) : spaceCode ∉ bs := by
  intro hmem
  simp only [readPageNumber] at h
  split at h
  · rename_i hall
    obtain ⟨hdigits, -⟩ := hall
    exact absurd (List.all_eq_true.mp hdigits _ hmem) (by decide)
  · cases h

theorem digit_toNat {n : Nat} (h : n ≤ 9) : (BitVec.ofNat 8 (48 + n)).toNat = 48 + n := by
  rw [BitVec.toNat_ofNat]
  omega

theorem isDigit_digit {n : Nat} (h : n ≤ 9) : isDigit (BitVec.ofNat 8 (48 + n)) = true := by
  simp only [isDigit, digit_toNat h, Bool.and_eq_true, decide_eq_true_eq]
  omega

theorem readPageNumber_one {n : Nat} (h1 : 1 ≤ n) (h9 : n ≤ 9) :
    readPageNumber [BitVec.ofNat 8 (48 + n)] = some n := by
  have hvalue : 0 * 10 + (48 + n - 48) = n := by omega
  have hrange : 1 ≤ n ∧ n ≤ 32 := by omega
  simp only [readPageNumber, List.foldl_cons, List.foldl_nil, digit_toNat h9, hvalue, List.all_cons, List.all_nil,
    isDigit_digit h9]
  exact if_pos ⟨rfl, .inl rfl, hrange⟩

theorem readPageNumber_two {n : Nat} (h1 : 1 ≤ n) (h32 : n ≤ 32) :
    readPageNumber [BitVec.ofNat 8 (48 + n / 10), BitVec.ofNat 8 (48 + n % 10)] = some n := by
  have htens : n / 10 ≤ 9 := by omega
  have hunits : n % 10 ≤ 9 := by omega
  have hvalue : (0 * 10 + (48 + n / 10 - 48)) * 10 + (48 + n % 10 - 48) = n := by omega
  simp only [readPageNumber, List.foldl_cons, List.foldl_nil, digit_toNat htens, digit_toNat hunits, hvalue,
    List.all_cons, List.all_nil, isDigit_digit htens, isDigit_digit hunits]
  exact if_pos ⟨rfl, .inr rfl, h1, h32⟩

/-- R157: P, any spaces, and a number of 1 to 32. -/
theorem readKeyCommand_page {n : Nat} (spaces : Nat) (h : readPageNumber bs = some n) :
    readKeyCommand (80 :: (List.replicate spaces 32 ++ bs)) = .page n := by
  have hhead : bs.head? ≠ some spaceCode := fun hs => space_not_mem_of_readPageNumber h (List.mem_of_head? hs)
  have hdrop : (List.replicate spaces 32 ++ bs).dropWhile (· == spaceCode) = bs := by
    rw [List.dropWhile_append_of_pos fun b hb => by rw [List.eq_of_mem_replicate hb]; rfl]
    exact dropWhile_space_of_head hhead
  change ((readPageNumber ((List.replicate spaces 32 ++ bs).dropWhile (· == spaceCode))).map KeyCommand.page).getD
    .unknown = _
  rw [hdrop, h]
  rfl

theorem trimSpaces_page {n : Nat} (spaces : Nat) (h : readPageNumber bs = some n) :
    trimSpaces (80 :: (List.replicate spaces 32 ++ bs)) = 80 :: (List.replicate spaces 32 ++ bs) := by
  have hne : bs ≠ [] := by
    rintro rfl
    simp [readPageNumber] at h
  refine trimSpaces_of_ends (fun hs => absurd (Option.some.inj hs) (by decide)) ?_
  rw [← List.cons_append, List.getLast?_append_of_ne_nil _ hne]
  exact fun hs => space_not_mem_of_readPageNumber h (List.mem_of_getLast? hs)

end

/-- One to five capital letters. -/
def SpellsSymbol (letters : List Byte) : Prop :=
  1 ≤ letters.length ∧ letters.length ≤ 5 ∧ ∀ b ∈ letters, 65 ≤ b.toNat ∧ b.toNat ≤ 90

section
variable {letters : List Byte}

theorem SpellsSymbol.readKeySymbol (h : SpellsSymbol letters) :
    readKeySymbol letters = some (Symbol.ofList letters) := by
  obtain ⟨h1, h5, hcapital⟩ := h
  refine if_pos ⟨List.all_eq_true.mpr fun b hb => ?_, h1, h5⟩
  simpa [isCapital] using hcapital b hb

/-- A sign and a symbol have no outer spaces. -/
theorem SpellsSymbol.trimSpaces (h : SpellsSymbol letters) {sign : Byte} (hsign : sign ≠ spaceCode) :
    trimSpaces (sign :: letters) = sign :: letters := by
  obtain ⟨-, -, hcapital⟩ := h
  refine trimSpaces_of_ends (by simpa using hsign) fun hlast => ?_
  rcases List.mem_cons.mp (List.mem_of_getLast? hlast) with hs | hs
  · exact hsign hs.symm
  · exact absurd (hcapital _ hs) (by decide)

theorem SpellsSymbol.readKeyCommand_add (h : SpellsSymbol letters) :
    readKeyCommand (43 :: letters) = .add (Symbol.ofList letters) := by
  change ((Machine.readKeySymbol letters).map KeyCommand.add).getD .unknown = _
  rw [h.readKeySymbol]
  rfl

theorem SpellsSymbol.readKeyCommand_remove (h : SpellsSymbol letters) :
    readKeyCommand (45 :: letters) = .remove (Symbol.ofList letters) := by
  change ((Machine.readKeySymbol letters).map KeyCommand.remove).getD .unknown = _
  rw [h.readKeySymbol]
  rfl

theorem SpellsSymbol.readKeyCommand_detail (h : SpellsSymbol letters) :
    readKeyCommand (63 :: letters) = .detail (Symbol.ofList letters) := by
  change ((Machine.readKeySymbol letters).map KeyCommand.detail).getD .unknown = _
  rw [h.readKeySymbol]
  rfl

/-- A line of one character spells no command but W. -/
theorem readKeyCommand_single {b : Byte} (h : b ≠ 87) : readKeyCommand [b] = .unknown := by
  have hb : b.toNat ≠ 87 := fun e => h (BitVec.eq_of_toNat_eq e)
  simp only [readKeyCommand]
  split
  · rfl
  · contradiction
  all_goals rfl

end

/-! ### The return key (R156) -/

/-- The keyboard line has not overflowed, is not blank, and spells the command. -/
def Terminal.Orders (t : Terminal) (c : KeyCommand) : Prop :=
  t.overflow = false ∧ trimSpaces t.keyLine ≠ [] ∧ readKeyCommand (trimSpaces t.keyLine) = c

/-- The terminal with its line emptied, as the command finds it. -/
def Terminal.emptied (t : Terminal) : Terminal :=
  { t with keyLine := [], commandOwed := true }

section
variable {t : Terminal} {c : KeyCommand} {held : Symbol → Bool}

/-- R156: nothing is performed on an overflowed line. -/
theorem Terminal.returnKey_of_overflow (h : t.overflow = true) :
    t.returnKey held = { t with overflow := false, keyLine := [], commandOwed := true } := by
  simp [Terminal.returnKey, h]

theorem Terminal.returnKey_of_orders (h : t.Orders c) : t.returnKey held = t.emptied.perform held c := by
  obtain ⟨ho, hne, hspelled⟩ := h
  simp [Terminal.returnKey, Terminal.emptied, ho, hne, hspelled]

theorem Terminal.orders_of_line {line : List Byte} (ho : t.overflow = false) (hline : t.keyLine = line)
    (htrim : trimSpaces line = line) (hne : line ≠ []) : t.Orders (readKeyCommand line) := by
  subst hline
  exact ⟨ho, by rwa [htrim], by rw [htrim]⟩

theorem Terminal.orders_page {n spaces : Nat} {ds : List Byte} (ho : t.overflow = false)
    (hn : readPageNumber ds = some n) (hline : t.keyLine = 80 :: (List.replicate spaces 32 ++ ds)) :
    t.Orders (.page n) :=
  readKeyCommand_page spaces hn ▸ Terminal.orders_of_line ho hline (trimSpaces_page spaces hn) (List.cons_ne_nil _ _)

theorem SpellsSymbol.orders {letters : List Byte} (h : SpellsSymbol letters) {sign : Byte} (hsign : sign ≠ spaceCode)
    (ho : t.overflow = false) (hline : t.keyLine = sign :: letters) : t.Orders (readKeyCommand (sign :: letters)) :=
  Terminal.orders_of_line ho hline (h.trimSpaces hsign) (List.cons_ne_nil _ _)

/-- R156: a line of one character that is neither W nor a space. -/
theorem Terminal.orders_unknown {b : Byte} (ho : t.overflow = false) (hspace : b ≠ 32) (hwatch : b ≠ 87)
    (hline : t.keyLine = [b]) : t.Orders .unknown := by
  have hends : some b ≠ some spaceCode := fun hs => hspace (Option.some.inj hs)
  exact readKeyCommand_single hwatch ▸
    Terminal.orders_of_line ho hline (trimSpaces_of_ends hends hends) (List.cons_ne_nil _ _)

/-! ### The watch list (R158) -/

variable {x : Symbol}

/-- R147: an accepted edit asks for a redraw when the selection is WATCH. -/
theorem Terminal.edited_eq (watch : List Symbol) (t : Terminal) :
    t.edited watch = { t with watch := watch, redrawOwed := t.redrawOwed || decide (t.selection = .watch) } := by
  rw [Terminal.edited, beq_eq_decide]

theorem Terminal.perform_add_of_unheld (h : held x = false) : t.perform held (.add x) = t.refuse .unknown := by
  simp [Terminal.perform, h]

theorem Terminal.perform_add_of_listed (h : held x = true) (hx : x ∈ t.watch) :
    t.perform held (.add x) = t.refuse .already := by
  simp [Terminal.perform, h, hx]

theorem Terminal.perform_add_of_full (h : held x = true) (hx : x ∉ t.watch) (hfull : 16 ≤ t.watch.length) :
    t.perform held (.add x) = t.refuse .full := by
  simp [Terminal.perform, h, hx, Config.watchPlaces, hfull]

theorem Terminal.perform_add_of_room (h : held x = true) (hx : x ∉ t.watch) (hroom : ¬ 16 ≤ t.watch.length) :
    t.perform held (.add x) = { t with
      watch := t.watch ++ [x], redrawOwed := t.redrawOwed || decide (t.selection = .watch) } := by
  rw [← Terminal.edited_eq]
  simp [Terminal.perform, h, hx, Config.watchPlaces, hroom]

theorem Terminal.perform_remove_of_listed (hx : x ∈ t.watch) :
    t.perform held (.remove x) = { t with
      watch := t.watch.filter (· != x), redrawOwed := t.redrawOwed || decide (t.selection = .watch) } := by
  rw [← Terminal.edited_eq]
  simp [Terminal.perform, hx]

theorem Terminal.perform_remove_of_unlisted (hx : x ∉ t.watch) :
    t.perform held (.remove x) = t.refuse .notListed := by
  simp [Terminal.perform, hx]

theorem Terminal.perform_detail (x : Symbol) (t : Terminal) : t.perform held (.detail x) =
    if held x = true then { t with detailOwed := some x } else t.refuse .unknown := rfl

end

/-- What the return key makes of the state, at a terminal in use that is not free. -/
theorem next_return {s : State} {k : TerminalId} {c : KeyCommand} {x : Terminal} (hrun : s.part.running = true)
    (hused : (s.part.terminal k).state ≠ .unused) (hbusy : (s.part.terminal k).step.isSome = true)
    (horders : (s.part.terminal k).Orders c)
    (hx : (s.part.terminal k).emptied.perform (fun y => (s.part.lookup y).isSome) c = x) :
    (.next (s.onPart (Part.whenRunning (Part.returnReceived k))) : Host.Outcome State Fault Refusal) =
      .next (s.withPart (s.part.setTerminal k x)) :=
  next_key hrun hused hbusy ((Terminal.key_return hused).trans ((Terminal.returnKey_of_orders horders).trans hx))

/-- Settles O48: the line of each return spells its command, which is performed on the terminal with its line emptied. -/
theorem returnActs : Obligations.ReturnActs := by
  refine ⟨fun s k hrun hused hbusy => ⟨fun n spaces h1 h32 ho hline => ?_, fun ho hline => ?_, fun ho => ?_⟩, ?_,
    fun s k hrun hused hbusy ho => ⟨fun letters hlen h5 hcapital hline => ?_, fun b hspace hwatch hline => ?_⟩⟩
  · have horders : (s.part.terminal k).Orders (.page n) := by
      rcases hline with hline | ⟨h9, hline⟩
      · exact Terminal.orders_page ho (readPageNumber_two h1 h32) hline
      · exact Terminal.orders_page ho (readPageNumber_one h1 h9) hline
    exact next_return hrun hused hbusy horders rfl
  · have horders : (s.part.terminal k).Orders .watch := Terminal.orders_of_line ho hline (by decide) (by decide)
    exact next_return hrun hused hbusy horders rfl
  · exact next_key hrun hused hbusy ((Terminal.key_return hused).trans (Terminal.returnKey_of_overflow ho))
  · intro s k letters hrun hused hbusy ho hlen h5 hcapital x sym performed
    have hspells : SpellsSymbol letters := ⟨hlen, h5, hcapital⟩
    refine ⟨fun hline => ?_, fun hline => ?_⟩
    · have horders : x.Orders (.add sym) := hspells.readKeyCommand_add ▸ hspells.orders (by decide) ho hline
      split
      · rename_i hnone
        exact next_return hrun hused hbusy horders (Terminal.perform_add_of_unheld (by rw [hnone]; rfl))
      · rename_i hsome
        have hheld : (s.part.lookup sym).isSome = true := Option.isSome_iff_ne_none.mpr hsome
        split
        · rename_i hlisted
          exact next_return hrun hused hbusy horders (Terminal.perform_add_of_listed hheld hlisted)
        · rename_i hnew
          split
          · rename_i hfull
            exact next_return hrun hused hbusy horders (Terminal.perform_add_of_full hheld hnew hfull)
          · rename_i hroom
            exact next_return hrun hused hbusy horders (Terminal.perform_add_of_room (t := x.emptied) hheld hnew hroom)
    · have horders : x.Orders (.remove sym) := hspells.readKeyCommand_remove ▸ hspells.orders (by decide) ho hline
      split
      · rename_i hlisted
        exact next_return hrun hused hbusy horders (Terminal.perform_remove_of_listed (t := x.emptied) hlisted)
      · rename_i hunlisted
        exact next_return hrun hused hbusy horders (Terminal.perform_remove_of_unlisted hunlisted)
  · have hspells : SpellsSymbol letters := ⟨hlen, h5, hcapital⟩
    have horders : (s.part.terminal k).Orders (.detail (Symbol.ofList letters)) :=
      hspells.readKeyCommand_detail ▸ hspells.orders (by decide) ho hline
    refine next_return hrun hused hbusy horders ((Terminal.perform_detail _ _).trans ?_)
    by_cases hnone : s.part.lookup (Symbol.ofList letters) = none
    · rw [if_neg (by simp [hnone]), if_pos hnone]
      rfl
    · rw [if_pos (Option.isSome_iff_ne_none.mpr hnone), if_neg hnone]
      rfl
  · exact next_return hrun hused hbusy (Terminal.orders_unknown ho hspace hwatch hline) rfl

end Sys2Proof.Machine
end

section
/-! What a warm restart keeps, and the Recall Unit's first test after it (R3, R47, R62, R78, R92, R160, R173). -/

namespace Sys2Proof.Machine

/-! ### Flags that stay SET (R171) -/

/-- Every flag of the first byte is SET in the second. -/
def FlagsStay (old new : Byte) : Prop :=
  new &&& old = old

section
variable {x y z : Byte}

theorem FlagsStay.refl (x : Byte) : FlagsStay x x :=
  BitVec.and_self

theorem FlagsStay.trans (h : FlagsStay x y) (h' : FlagsStay y z) : FlagsStay x z := by
  unfold FlagsStay at *
  calc z &&& x = (z &&& y) &&& x := by rw [BitVec.and_assoc, h]
    _ = x := by rw [h', h]

theorem FlagsStay.raise (h : FlagsStay x y) (f : EventFlag) : FlagsStay x (raiseFlag f y) := by
  refine h.trans ?_
  rw [FlagsStay, raiseFlag]
  ext i hi
  simp +contextual

end

section
variable (t : Tape) (env : TapeEnv)

theorem Tape.makeEntry_flagsStay (band : Band) (content : EntryContent) :
    FlagsStay t.flags (t.makeEntry band content).flags := by
  unfold Tape.makeEntry
  split
  · exact .refl _
  · simp only
    split
    · exact (FlagsStay.refl _).raise _
    · exact .refl _

theorem Tape.announce_flagsStay (threshold m : Nat) : FlagsStay t.flags (t.announce threshold m).flags := by
  unfold Tape.announce
  split
  · exact .refl _
  · split
    · split
      · exact .refl _
      · exact (t.makeEntry_flagsStay _ _).raise _
    · split
      · exact t.makeEntry_flagsStay _ _
      · exact .refl _

theorem Tape.sample_flagsStay (trade : Nat) : FlagsStay t.flags (t.sample env trade).flags := by
  unfold Tape.sample
  split
  · exact .refl _
  · simp only
    split
    · exact .refl _
    · exact Tape.announce_flagsStay _ _ _

theorem Tape.takeHead_flagsStay : FlagsStay t.flags (t.takeHead env).flags := by
  unfold Tape.takeHead
  split
  · exact .refl _
  · split
    · exact .refl _
    · simp only
      split
      · split
        · exact Tape.sample_flagsStay _ _ _
        · exact .refl _
      · exact .refl _

end

/-! ### The choices of the boards and the terminals (R97, R146) -/

theorem Zone.Owing.held {x y : Zone} (h : x.Owing y) : y.held = x.held := by
  rcases h with rfl | rfl
  · rfl
  · exact x.owe_held

/-- R97: with no blank pending a choice of work moves the zones, the Dirty Queue, the operation and the cursor alone. -/
theorem Board.choose_spec {b : Board} (h : b.blankPending = false) : ∃ zs d o cur n,
    b.choose = { b with zones := zs, dirty := d, op := o, cursor := cur, nextSource := n } := by
  rw [Board.choose_of_no_blank h]
  exact b.chooseWork_spec

/-- What a choice of the next step, and a warm restart, leave of a terminal (R146, R160). -/
def Terminal.chosen (t : Terminal) : Selection × List Symbol × Option Message :=
  (t.selection, t.watch, t.message)

theorem Terminal.takeLive_chosen (t : Terminal) : t.takeLive.chosen = t.chosen := by
  unfold Terminal.takeLive
  split <;> rfl

theorem Terminal.choose_chosen (fresh : List Row) (t : Terminal) : (t.choose fresh).chosen = t.chosen := by
  unfold Terminal.choose
  split
  · rfl
  · split
    · rfl
    · split
      · rfl
      · split
        · split
          · rfl
          · rfl
        · split
          · rfl
          · split
            · split
              · rfl
              · exact Terminal.takeLive_chosen _
            · exact t.takeLive_chosen

theorem Terminal.warmRestart_chosen (t : Terminal) : t.warmRestart.chosen = t.chosen := by
  unfold Terminal.warmRestart
  split <;> rfl

section
variable (p : Part)

theorem Part.settle_chosen (k : TerminalId) : (p.settle.terminal k).chosen = (p.terminal k).chosen := by
  obtain ⟨f, b, hkick, -⟩ := p.boardKick_spec
  obtain ⟨f', ts, hterms, hkeeps⟩ := p.boardKick.termsKick_spec
  obtain ⟨u, rs, l, htest, -⟩ := p.boardKick.termsKick.recallTest_spec
  have hterminals : p.settle.terminal k = ts.get k := by rw [Part.settle, htest, hterms, Part.terminal]
  rw [hterminals]
  refine hkeeps k (fun x => x.chosen = (p.terminal k).chosen) ?_ fun x rows hx => (x.choose_chosen rows).trans hx
  rw [hkick, Part.terminal, Part.terminal]

/-! ### The Recall Unit's test (R47) -/

variable {p}

/-- R47: without a session day, in listen-only, or with an empty list no recall is queued. -/
theorem Part.recallTest_of_quiet (h : p.clock.session = none ∨ p.line.listenOnly = true ∨ p.recalls.list = []) :
    p.recallTest = p := by
  unfold Part.recallTest
  split
  · rename_i i rest hlist
    have hmay : p.mayRecall = false := by
      rcases h with h | h | h
      · simp [Part.mayRecall, h]
      · simp [Part.mayRecall, h]
      · exact absurd (hlist.symm.trans h) nofun
    rw [if_neg (ne_true_of_eq_false hmay)]
  · rfl

theorem chosenFrame_single (f : QueuedFrame) : chosenFrame [f] = some f := by
  cases h : f.body.frameClass <;> simp [chosenFrame, QueuedFrame.hasClass, h]

/-- R71: a frame alone in the queue stays behind the frame being sent, and an IDLE transmitter takes it. -/
theorem Part.takeFrame_of_single {f : QueuedFrame} (hq : p.line.queue = [f]) : ∃ l,
    p.takeFrame = { p with line := l } ∧ (p.line.current.isSome = true → l.queue = [f]) ∧
    (p.line.current = none → l.queue = [] ∧ l.current.map Sending.frame = some f) := by
  cases hc : p.line.current with
  | some x =>
    refine ⟨p.line, ?_, fun _ => hq, nofun⟩
    rw [p.takeFrame_of_sending (by rw [hc]; rfl)]
  | none =>
    rw [Part.takeFrame_of_chosen (older := []) (younger := []) hc (by simp [hq]) hq (hq ▸ chosenFrame_single f)]
    exact ⟨_, rfl, nofun, fun _ => ⟨rfl, rfl⟩⟩

/-- R47, R48: with every slot free and the pace timer stopped the head of the list is queued; its RECALL is alone in an
empty queue, so an IDLE transmitter takes it (R71). -/
theorem Part.recallTest_of_restarted {i : Nat} {rest : List Nat} (hsession : p.clock.session.isSome = true)
    (hlo : p.line.listenOnly = false) (hrecalls : p.recalls = ⟨i :: rest, [], [], false⟩) (hq : p.line.queue = []) :
    ∃ l, p.recallTest = { p with
        recalls := ⟨rest, [⟨i, 1, .awaitingOutcome p.line.nextAge⟩], [], true⟩
        records := p.records.modify i fun r => { r with recallState := .outstanding }
        line := l } ∧
      (p.line.current.isSome = true → l.queue = [⟨p.line.nextAge, .recallFor i⟩]) ∧
      (p.line.current = none → l.queue = [] ∧ l.current.map Sending.frame = some ⟨p.line.nextAge, .recallFor i⟩) := by
  have hmay : p.mayRecall = true := by simp [Part.mayRecall, hsession, hlo, hrecalls, Config.recallSlots]
  have hroom : p.line.queue.length < Config.queuePlaces := by simp [hq, Config.queuePlaces]
  have hlist : p.recalls.list = i :: rest := by rw [hrecalls]
  have hqueued := ({ p with recalls := { p.recalls with list := rest } } : Part).queueRecall_of_room i hroom
  rw [p.recallTest_of_mayRecall hlist hmay, hqueued]
  simp only [hrecalls, hq, List.nil_append]
  exact Part.takeFrame_of_single rfl

/-! ### The blocks restarted, before the Recall Unit's test (R173) -/

/-- R62: the records on the Recall List after a warm restart, the outstanding ones before the others. -/
def Recall.back (u : Recall) : List Nat :=
  u.slots.map Slot.record ++ u.list

/-- R62: the Recall List, the slots and the answers after a warm restart. -/
def Recall.restarted (u : Recall) : Recall :=
  { list := u.back, slots := [], replies := [], paceRunning := false }

/-- R173: what the restart of every block leaves of a part, before the Recall Unit's test. -/
structure Part.Restarted (p q : Part) : Prop where
  settings : q.settings = p.settings
  directory : q.directory = p.directory
  pages : q.pages = p.pages
  clock : q.clock = p.clock
  line : q.line = { p.line with queue := [] }
  recalls : q.recalls = p.recalls.restarted
  listed : ∀ i ∈ p.recalls.slots.map Slot.record, ∀ r, q.records[i]? = some r → r.recallState = .listed
  console : ∃ flags note, FlagsStay p.console.flags flags ∧ q.console = { p.console with
    port := .ready, result := .none, readBuffer := none, readPointer := 0, flags := flags, note := note }

variable (p)

theorem Part.boardsRestarted_eq : ∃ rs,
    p.boardsRestarted = { p with
      formatter := .reset, recalls := p.recalls.restarted, records := rs
      line := { p.line with queue := [] }, board := p.board.warmRestart } ∧
    ∀ i ∈ p.recalls.slots.map Slot.record, ∀ r, rs[i]? = some r → r.recallState = .listed := by
  obtain ⟨rs, hfold, -, hget⟩ := p.formatterRestart.foldl_setRecallState_spec (p.recalls.slots.map Slot.record)
  refine ⟨rs, ?_, fun i hi r hr => ?_⟩
  · have hrecall : p.formatterRestart.recallRestart =
        { p.formatterRestart with records := rs, recalls := p.recalls.restarted } := by
      simp only [Part.recallRestart, Part.formatterRestart_recalls, hfold]
      rfl
    rw [Part.boardsRestarted, hrecall]
    rfl
  · rw [hget, if_pos hi] at hr
    obtain ⟨r₀, -, rfl⟩ := Option.map_eq_some_iff.mp hr
    rfl

theorem Part.portRestarted_spec : ∃ f rib flags note,
    p.portRestarted = { p with
      formatter := f, ribbon := rib, terminals := p.terminals.map Terminal.warmRestart
      console := { p.console with
        port := .ready, result := .none, readBuffer := none, readPointer := 0, flags := flags, note := note } } ∧
    FlagsStay p.console.flags flags := by
  obtain ⟨f, rib, htape, -⟩ := p.onTape_bare_spec Tape.warmRestart
  rw [Part.portRestarted, htape]
  exact ⟨f, rib, _, _, rfl, Tape.takeHead_flagsStay _ _⟩

/-- R173: a warm restart is the Recall Unit's test on the blocks restarted. -/
theorem Part.warmRestart_test : ∃ q, p.warmRestart = q.recallTest ∧ p.Restarted q := by
  obtain ⟨rs, hboards, hlisted⟩ := p.boardsRestarted_eq
  obtain ⟨_, _, hkick, -⟩ := p.boardsRestarted.boardKick_spec
  obtain ⟨_, _, flags, note, hport, hflags⟩ := p.boardsRestarted.boardKick.portRestarted_spec
  obtain ⟨_, _, hsettle, -⟩ := p.boardsRestarted.boardKick.portRestarted.boardKick_spec
  obtain ⟨_, _, hterms, -⟩ := p.boardsRestarted.boardKick.portRestarted.boardKick.termsKick_spec
  rw [hkick, hboards] at hflags
  refine ⟨_, p.warmRestart_eq, ?_⟩
  rw [hterms, hsettle, hport, hkick, hboards]
  exact ⟨rfl, rfl, rfl, rfl, rfl, rfl, hlisted, flags, note, hflags, rfl⟩

theorem Part.warmRestart_chosen (k : TerminalId) : (p.warmRestart.terminal k).chosen = (p.terminal k).chosen := by
  obtain ⟨rs, hboards, -⟩ := p.boardsRestarted_eq
  obtain ⟨_, _, hkick, -⟩ := p.boardsRestarted.boardKick_spec
  obtain ⟨_, _, _, _, hport, -⟩ := p.boardsRestarted.boardKick.portRestarted_spec
  have hterminal : p.boardsRestarted.boardKick.portRestarted.terminal k = (p.terminal k).warmRestart := by
    rw [hport, hkick, hboards]
    exact get_terminals_map _ p.terminals k
  rw [p.warmRestart_eq, Part.settle_chosen, hterminal, Terminal.warmRestart_chosen]

/-! ### The boards (R117) -/

variable {p}

/-- What holds of the restarted boards and survives their choices of work holds after a warm restart. -/
theorem Part.warmRestart_board_of_choices {P : Board → Prop} (hbase : P p.board.warmRestart)
    (hchoose : ∀ b, P b → P b.choose) : P p.warmRestart.board := by
  have hkick (q : Part) (hq : P q.board) : P q.boardKick.board := by
    obtain ⟨f, b, h, rfl | ⟨-, rfl⟩⟩ := q.boardKick_spec <;> rw [h]
    · exact hq
    · exact hchoose _ hq
  obtain ⟨q, hq, hboard, -⟩ := p.warmRestart_spec
  obtain ⟨f, b, ts, u, rs, l, hsettle, hb, -⟩ := q.settle_spec
  have hPq : P q.board := by
    rw [hboard]
    exact hkick _ (by rw [p.boardsRestarted_board]; exact hbase)
  rw [hq, hsettle]
  obtain rfl | ⟨-, rfl⟩ := hb
  · exact hPq
  · exact hchoose _ hPq

/-- R104, R108, R117: no blank is pending and no repaint held after a warm restart, and the layouts stand. -/
theorem Part.warmRestart_board : p.warmRestart.board.blankPending = false ∧
    p.warmRestart.board.repaintHeld = false ∧ p.warmRestart.board.layouts = p.board.layouts := by
  refine Part.warmRestart_board_of_choices
    (P := fun b => b.blankPending = false ∧ b.repaintHeld = false ∧ b.layouts = p.board.layouts) ⟨rfl, rfl, rfl⟩ ?_
  rintro b ⟨hblank, hheld, hlayouts⟩
  obtain ⟨zs, d, o, cur, n, h⟩ := Board.choose_spec hblank
  rw [h]
  exact ⟨hblank, hheld, hlayouts⟩

end

/-! ### What the lock keeps (R178) -/

/-- What the lock keeps is read of the settings, the tables, the quotations, the positions and the zones. -/
theorem Part.configured_congr {p q : Part} (hsettings : q.settings = p.settings)
    (hdirectory : q.directory = p.directory) (hpages : q.pages = p.pages) (hclock : q.clock = p.clock)
    (hquotations : q.quotations = p.quotations)
    (hlayouts : q.board.layouts = p.board.layouts)
    (hpositions : q.board.positions = p.board.positions.map fun x => { x with flash := false })
    (hzones : ∀ z, (q.board.zone z).fixed = (p.board.zone z).fixed ∧ (q.board.zone z).group = (p.board.zone z).group) :
    q.configured = p.configured := by
  have hinstruments (x : Part) : (x.records.map fun r => (r.symbol, r.home, r.priceStep, r.tapeExclude)) =
      x.quotations.map fun r => (r.symbol, r.home, r.priceStep, r.tapeExclude) := by
    rw [Part.quotations, List.map_map]
    rfl
  have hzoneList : (q.board.zones.map fun z => (z.fixed, z.group)) = p.board.zones.map fun z => (z.fixed, z.group) := by
    refine Vector.ext fun i hi => ?_
    obtain ⟨hfixed, hgroup⟩ := hzones ⟨i, hi⟩
    simpa [Board.zone, Vector.get_eq_getElem] using ⟨hfixed, hgroup⟩
  simp only [Part.configured, hsettings, hdirectory, hpages, hclock, hinstruments, hquotations, hlayouts, hpositions,
    ← Vector.toList_map, hzoneList, List.map_map]
  rfl

/-- R62: after a warm restart a record that had a slot is LISTED, or it heads the list and is OUTSTANDING again. -/
theorem recallState_of_modify {rs : List Record} {i j : Nat} {r : Record}
    (h : (rs.modify j fun r => { r with recallState := .outstanding })[i]? = some r)
    (hlisted : ∀ r, rs[i]? = some r → r.recallState = .listed) :
    r.recallState = .listed ∨ r.recallState = .outstanding ∧ j = i := by
  rw [List.getElem?_modify] at h
  split_ifs at h with hji
  · obtain ⟨r₀, -, rfl⟩ := Option.map_eq_some_iff.mp h
    exact .inr ⟨rfl, hji⟩
  · exact .inl (hlisted r (by simpa using h))

section
variable {p q : Part}

/-- R47: the test after a warm restart finds nothing to queue. -/
theorem Part.Restarted.recallTest_of_quiet (h : p.Restarted q)
    (hquiet : p.clock.session = none ∨ p.line.listenOnly = true ∨ p.recalls.back = []) : q.recallTest = q := by
  refine Part.recallTest_of_quiet ?_
  rw [h.clock, h.line, h.recalls]
  exact hquiet

/-- R47, R62: the test after a warm restart queues the head of the list. -/
theorem Part.Restarted.recallTest_of_head (h : p.Restarted q) {i : Nat} {rest : List Nat}
    (hsession : p.clock.session.isSome = true) (hlo : p.line.listenOnly = false) (hback : p.recalls.back = i :: rest) :
    ∃ l, q.recallTest = { q with
        recalls := ⟨rest, [⟨i, 1, .awaitingOutcome p.line.nextAge⟩], [], true⟩
        records := q.records.modify i fun r => { r with recallState := .outstanding }
        line := l } ∧
      (p.line.current.isSome = true → l.queue = [⟨p.line.nextAge, .recallFor i⟩]) ∧
      (p.line.current = none → l.queue = [] ∧ l.current.map Sending.frame = some ⟨p.line.nextAge, .recallFor i⟩) := by
  have htest := Part.recallTest_of_restarted (p := q) (i := i) (rest := rest) (by rw [h.clock]; exact hsession)
    (by rw [h.line]; exact hlo) (by rw [h.recalls, Recall.restarted, hback]) (by rw [h.line])
  rw [h.line] at htest
  exact htest

/-- R47, R62: after the test no answer is left, and a record that had a slot is LISTED or OUTSTANDING at the head. -/
theorem Part.Restarted.recallTest_spec (h : p.Restarted q) : q.recallTest.recalls.replies = [] ∧
    ∀ i ∈ p.recalls.slots.map Slot.record, ∀ r, q.recallTest.records[i]? = some r →
      r.recallState = .listed ∨ r.recallState = .outstanding ∧ p.recalls.back.head? = some i := by
  by_cases hquiet : p.clock.session = none ∨ p.line.listenOnly = true ∨ p.recalls.back = []
  · rw [h.recallTest_of_quiet hquiet]
    exact ⟨by rw [h.recalls, Recall.restarted], fun i hi r hr => .inl (h.listed i hi r hr)⟩
  · simp only [not_or, Bool.not_eq_true] at hquiet
    obtain ⟨hsession, hlo, hback⟩ := hquiet
    obtain ⟨j, rest, hback⟩ := List.exists_cons_of_ne_nil hback
    obtain ⟨l, htest, -⟩ := h.recallTest_of_head (Option.isSome_iff_ne_none.mpr hsession) hlo hback
    rw [htest, hback]
    refine ⟨rfl, fun i hi r hr => (recallState_of_modify hr (h.listed i hi)).imp_right ?_⟩
    exact fun ⟨hstate, hji⟩ => ⟨hstate, congrArg some hji⟩

end

/-- Settles O52: the blocks restarted keep what is stated, and the Recall Unit's test queues the head of its list or
nothing. -/
theorem warmRestartKeeps : Obligations.WarmRestartKeeps := by
  intro s hport back
  obtain ⟨q, hq, hrestarted⟩ := s.part.warmRestart_test
  obtain ⟨flags, note, hflags, hconsole⟩ := hrestarted.console
  obtain ⟨u, rs, l, htest, -, hsense, hlo⟩ := q.recallTest_spec
  obtain ⟨hreplies, hlisted⟩ := hrestarted.recallTest_spec
  obtain ⟨heases, hpositions, -⟩ := s.part.warmRestart_chose
  obtain ⟨hblank, hheld, hlayouts⟩ := s.part.warmRestart_board
  have hquotations : s.part.warmRestart.quotations = s.part.quotations := s.part.warmRestart_recallOnly
  have hconfigured : s.part.warmRestart.configured = s.part.configured := by
    refine Part.configured_congr ?_ ?_ ?_ ?_ hquotations hlayouts hpositions
      fun z => ⟨(heases.zone z).fixed, (heases.zone z).group⟩ <;> rw [hq, htest]
    · exact hrestarted.settings
    · exact hrestarted.directory
    · exact hrestarted.pages
    · exact hrestarted.clock
  have hconsoleAfter : s.part.warmRestart.console = q.console := by rw [hq, htest]
  have hcurrent := s.part.warmRestart_serves.current
  rw [hconsole] at hconsoleAfter
  refine ⟨_, next_onPart (Part.commandWrite_warmRestart hport), ?_⟩
  rw [State.withPart_part, hconsoleAfter]
  refine ⟨rfl, rfl, rfl, rfl, hflags, hquotations, ?_, hconfigured, ?_, ?_, hcurrent, ?_, heases.panels, hblank, hheld,
    fun z => (heases.zone z).held, ?_, ?_, ?_, fun k => ?_⟩
  · rw [hq, htest]
    exact hrestarted.clock
  · rw [hq, htest]
    exact hlo.trans (by rw [hrestarted.line])
  · rw [hq, htest]
    exact hsense.trans (by rw [hrestarted.line])
  · rw [hq]
    exact hreplies
  · intro hquiet
    rw [hq, hrestarted.recallTest_of_quiet hquiet]
    exact ⟨hrestarted.recalls, hrestarted.line⟩
  · intro i rest hsession hlisten hback
    obtain ⟨l, hhead, hqueue⟩ := hrestarted.recallTest_of_head hsession hlisten hback
    rw [hq, hhead]
    exact ⟨rfl, hqueue⟩
  · rw [hq]
    exact hlisted
  · have hchosen := s.part.warmRestart_chosen k
    simpa only [Terminal.chosen, Prod.mk.injEq] using hchosen

end Sys2Proof.Machine
end

section
/-! Holds and releases at the boards (R111 to R113), the station's own when SENT and a peer's when heard (R168). -/

namespace Sys2Proof.Machine

/-! ### HOLD (R112) -/

section
variable (b : Board) (g : Nat)

theorem Board.zone_holdGroup (z : ZoneId) : (b.holdGroup g).zone z = { b.zone z with
    held := (b.zone z).held || (b.zone z).group == some g
    refreshOwed := (b.zone z).refreshOwed || ((b.zone z).group == some g && !(b.zone z).fixed) } := by
  have hzone : (b.holdGroup g).zone z =
      if (b.zone z).group = some g then ({ b.zone z with held := true } : Zone).owe else b.zone z :=
    get_zones_map _ b.zones z
  rw [hzone]
  split
  · rename_i hgroup
    cases hfixed : (b.zone z).fixed <;> simp [Zone.owe, hgroup, hfixed]
  · rename_i hgroup
    simp [beq_eq_false_iff_ne.mpr hgroup]

theorem Board.dirty_holdGroup : (b.holdGroup g).dirty =
    b.dirty.filter fun k => ((b.zoneOf k).bind fun z => (b.zone z).group) != some g := by
  refine List.filter_congr fun k _ => ?_
  cases b.zoneOf k <;> rfl

/-! ### RELEASE (R113) -/

theorem Zone.release_eq (z : Zone) : z.release g = { z with
    held := z.held && z.group != some g
    refreshOwed := z.refreshOwed && (z.group != some g || !z.held || z.fixed) } := by
  by_cases hgroup : z.group = some g
  · obtain ⟨fixed, held, group, owed⟩ := z
    obtain rfl : group = some g := hgroup
    cases held <;> cases fixed <;> simp [Zone.release]
  · simp [Zone.release, hgroup, bne_iff_ne.mpr hgroup]

/-- A zone that a release leaves owing no more is unprotected. -/
theorem Zone.release_isProtected_of_owing {z : Zone} (h : z.releasedOwing g = true) :
    (z.release g).isProtected = false := by
  simp only [Zone.releasedOwing, Bool.and_eq_true, beq_iff_eq, Bool.not_eq_true'] at h
  obtain ⟨⟨⟨hgroup, hheld⟩, hfixed⟩, -⟩ := h
  simp [Zone.isProtected, z.release_eq g, hgroup, hfixed]

/-- R99: a mark on a position of an unprotected zone. -/
theorem Board.mark_of_unprotected {b : Board} {k : Nat} {z : ZoneId} (hz : b.zoneOf k = some z)
    (hp : (b.zone z).isProtected = false) :
    b.mark k = if !b.absorbs k && !b.dirty.contains k then { b with dirty := b.dirty ++ [k] } else b := by
  cases habsorbs : b.absorbs k with
  | true => simp [Board.mark, hz, hp, habsorbs]
  | false => cases hdirty : b.dirty.contains k <;> simp only [Board.mark, hz, hp, habsorbs, hdirty] <;> rfl

/-- R99: marks on positions of unprotected zones join the Dirty Queue in their order, but for those that a repaint will
reach and those that stand in it. -/
theorem Board.markAll_of_unprotected {b : Board} {ks : List Nat} (hks : ks.Nodup)
    (h : ∀ k ∈ ks, ∃ z, b.zoneOf k = some z ∧ (b.zone z).isProtected = false) :
    b.markAll ks = { b with dirty := b.dirty ++ ks.filter fun k => !b.absorbs k && !b.dirty.contains k } := by
  induction ks generalizing b with
  | nil => simp [Board.markAll]
  | cons k ks ih =>
    obtain ⟨hk, hks⟩ := List.nodup_cons.mp hks
    obtain ⟨⟨z, hz, hp⟩, hrest⟩ := List.forall_mem_cons.mp h
    rw [Board.markAll, List.foldl_cons, ← Board.markAll, Board.mark_of_unprotected hz hp, List.filter_cons]
    split
    · have hlater : (ks.filter fun j => !b.absorbs j && !(b.dirty ++ [k]).contains j) =
          ks.filter fun j => !b.absorbs j && !b.dirty.contains j := by
        refine List.filter_congr fun j hj => ?_
        have hne : j ≠ k := fun e => hk (e ▸ hj)
        simp [hne]
      refine (ih (b := { b with dirty := b.dirty ++ [k] }) hks hrest).trans ?_
      simp only [Board.absorbs] at hlater ⊢
      rw [hlater, List.append_assoc, List.singleton_append]
    · exact ih hks hrest

/-- R113: the positions that a release marks, in ascending order. -/
def Board.released (b : Board) (g : Nat) : List Nat :=
  b.positionsWhere fun pos => (b.zone pos.zone).releasedOwing g

theorem Board.mem_released {k : Nat} (h : k ∈ b.released g) :
    ∃ z, b.zoneOf k = some z ∧ (b.zone z).releasedOwing g = true := by
  obtain ⟨-, hk⟩ := List.mem_filter.mp h
  cases hpos : b.positions[k]? with
  | none => simp [hpos] at hk
  | some pos => exact ⟨pos.zone, by simp [Board.zoneOf, hpos], by simpa [hpos] using hk⟩

theorem Board.releaseGroup_eq : b.releaseGroup g = { b with
    zones := b.zones.map (Zone.release g)
    dirty := b.dirty ++ (b.released g).filter fun k => !b.absorbs k && !b.dirty.contains k } := by
  have hnodup : (b.released g).Nodup := List.nodup_range.filter _
  refine Board.markAll_of_unprotected (b := { b with zones := b.zones.map (Zone.release g) }) hnodup fun k hk => ?_
  obtain ⟨z, hz, howing⟩ := b.mem_released g hk
  refine ⟨z, hz, ?_⟩
  rw [Board.zone, get_zones_map]
  exact Zone.release_isProtected_of_owing g howing

theorem Board.dirty_releaseGroup : (b.releaseGroup g).dirty =
    b.dirty ++ (b.released g).filter fun k => !b.absorbs k && !b.dirty.contains k :=
  congrArg Board.dirty (b.releaseGroup_eq g)

theorem Board.zone_releaseGroup (z : ZoneId) : (b.releaseGroup g).zone z = (b.zone z).release g := by
  rw [b.releaseGroup_eq]
  exact get_zones_map _ _ _

end

/-! ### The boards after a hold request (R97, R111) -/

/-- R97, R110: a choice of work eases the boards; a blank that it completes has no position to mark. -/
theorem Board.choose_eases (b : Board) : b.Eases b.choose := by
  unfold Board.choose
  split
  · split
    · rename_i hempty
      refine Board.Eases.trans ?_ (Board.chooseWork_eases _)
      have howing (z : Zone) : z.Owing (if z.held then z.owe else z) := by
        split
        · exact .inr rfl
        · exact .inl rfl
      refine (Board.mapZones_eases b howing).trans ?_
      have hpositions : ∀ test, ({ b with
          blankPending := false, zones := b.zones.map fun (z : Zone) => if z.held then z.owe else z } :
            Board).positionsWhere test = [] := by
        intro test
        simp [Board.positionsWhere, hempty]
      simp only [Board.completeBlank]
      split
      · exact .of_same (fun _ => rfl) rfl rfl rfl
      · rw [hpositions]
        exact .of_same (fun _ => rfl) rfl rfl rfl
    · exact .of_same (fun _ => rfl) rfl rfl rfl
  · exact b.chooseWork_eases

theorem Part.settle_eases (p : Part) : p.board.Eases p.settle.board := by
  obtain ⟨f, b, ts, u, rs, l, hsettle, hb, -⟩ := p.settle_spec
  rw [hsettle]
  obtain rfl | ⟨-, rfl⟩ := hb
  · exact .refl _
  · exact p.board.choose_eases

section
variable (b : Board) (g a : Nat)

/-- R111: a hold request changes the zones and the Dirty Queue alone. -/
theorem Board.requestHold_spec : ∃ zs d, b.requestHold g a = { b with zones := zs, dirty := d } := by
  unfold Board.requestHold
  split
  · exact ⟨_, _, rfl⟩
  · split
    · exact ⟨_, _, b.releaseGroup_eq g⟩
    · exact ⟨_, _, rfl⟩

theorem Board.held_requestHold (z : ZoneId) : ((b.requestHold g a).zone z).held =
    if a = 0 then (b.zone z).held || (b.zone z).group == some g
    else if a = 1 then (b.zone z).held && (b.zone z).group != some g
    else (b.zone z).held := by
  unfold Board.requestHold
  split
  · rw [b.zone_holdGroup]
  · split
    · rw [b.zone_releaseGroup, Zone.release_eq]
    · rfl

end

/-- What the end of the event leaves of a hold request at the boards. -/
structure Part.Holds (p q : Part) (g a : Nat) : Prop where
  clock : q.clock = p.clock
  console : q.console = p.console
  ribbon : q.ribbon = p.ribbon
  quotations : q.quotations = p.quotations
  panels : q.board.panels = p.board.panels
  sense : q.line.sense = p.line.sense
  eases : (p.board.requestHold g a).Eases q.board
  busy : p.board.op ≠ .idle → q.board = p.board.requestHold g a

section
variable {p q : Part} {g a : Nat}

theorem Part.holdArrives_holds (p : Part) (g a : Nat) : p.Holds (p.holdArrives g a).settle g a := by
  have hspares := (p.holdArrives g a).settle_spares
  obtain ⟨zs, d, hrequest⟩ := p.board.requestHold_spec g a
  have hpanels : (p.board.requestHold g a).panels = p.board.panels := by rw [hrequest]
  have hop : (p.board.requestHold g a).op = p.board.op := by rw [hrequest]
  exact ⟨hspares.clock, hspares.console, hspares.ribbon, hspares.quotations, hspares.panels.trans hpanels,
    hspares.sense, (p.holdArrives g a).settle_eases, fun h => Part.settle_board_of_busy (hop.trans_ne h)⟩

theorem Part.Holds.held (h : p.Holds q g a) (z : ZoneId) : (q.board.zone z).held =
    if a = 0 then (p.board.zone z).held || (p.board.zone z).group == some g
    else if a = 1 then (p.board.zone z).held && (p.board.zone z).group != some g
    else (p.board.zone z).held :=
  (h.eases.zone z).held.trans (p.board.held_requestHold g a z)

/-- R112: after a HOLD the group's zones are HELD and owe a refresh unless FIXED. -/
theorem Part.Holds.zone (h : p.Holds q g 0) (z : ZoneId) : (q.board.zone z).fixed = (p.board.zone z).fixed ∧
    (q.board.zone z).group = (p.board.zone z).group ∧
    ((p.board.zone z).group = some g → (p.board.zone z).fixed = false → (q.board.zone z).refreshOwed = true) := by
  have howing : ((p.board.holdGroup g).zone z).Owing (q.board.zone z) := h.eases.zone z
  rw [Board.zone_holdGroup] at howing
  exact ⟨howing.fixed, howing.group, fun hgroup hfixed => howing.refreshOwed (by simp [hgroup, hfixed])⟩

/-- R112: after a HOLD no position of the group stands in the Dirty Queue. -/
theorem Part.Holds.not_mem_dirty (h : p.Holds q g 0) {k : Nat} {z : ZoneId} (hz : q.board.zoneOf k = some z)
    (hgroup : (q.board.zone z).group = some g) : k ∉ q.board.dirty := by
  intro hk
  obtain ⟨-, hsame, -⟩ := h.zone z
  have hzk : p.board.zoneOf k = some z := (h.eases.zoneOf k).symm.trans hz
  have hleft : k ∈ (p.board.holdGroup g).dirty := h.eases.dirty.subset hk
  rw [Board.dirty_holdGroup, List.mem_filter, hzk] at hleft
  simp [← hsame, hgroup] at hleft

theorem Part.Holds.withLine (h : p.Holds q g a) {l : Line} (hsense : l.sense = q.line.sense) :
    p.Holds { q with line := l } g a :=
  ⟨h.clock, h.console, h.ribbon, h.quotations, h.panels, hsense.trans h.sense, h.eases, h.busy⟩

/-! ### The two sources of a hold request (R111, R168) -/

/-- R168: the console's own hold request, SENT. -/
theorem Part.sendComplete_of_hold {x : Sending} (hc : p.line.current = some x) (hx : x.phase = .sending)
    (hb : x.frame.body = .hold g a) (hport : p.console.port = .busy x.frame.age) :
    ∃ q, p.sendComplete = q ∧ (p.finish .sent).Holds q g a := by
  have howner : p.ownerOutcome x.frame true = ((p.finish .sent).holdArrives g a).settle := by
    simp [Part.ownerOutcome, hb, Part.entryOutcome, hport, Part.handOn]
  have hholds := (p.finish .sent).holdArrives_holds g a
  generalize ((p.finish .sent).holdArrives g a).settle = q at howner hholds
  obtain ⟨l, htake, -, hsense, -⟩ := (q.onLine fun l => { l with current := none }).takeFrame_spec
  refine ⟨{ q with line := l }, ?_, hholds.withLine hsense⟩
  rw [Part.sendComplete_of_sending hc hx]
  simp only [Part.endSend, hc, howner]
  exact htake

/-- R111: a hold request heard. -/
theorem Part.endOfTransmission_of_hold {bytes : List Byte} {origin : Nat} (hrun : p.running = true)
    (hd : p.line.driverEnabled = false) (hs : p.line.sense ≠ .busy false)
    (h : readFrame bytes = some (origin, .hold g a)) :
    ∃ q l flags, p.endOfTransmission bytes = q ∧ l.sense = .quiet ∧
      ({ p with line := l, console := { p.console with flags := flags } } : Part).Holds q g a := by
  obtain ⟨flags, hheard⟩ := Part.endOfTransmission_of_frame hrun hd hs h
  exact ⟨_, _, flags, hheard, rfl, Part.holdArrives_holds _ g a⟩

end

/-- R113: the positions that a release marks, as the statement lists them. -/
theorem Board.released_eq (b : Board) (g : Nat) : b.released g = (List.range b.positions.length).filter fun k =>
    match b.zoneOf k with
    | some z => (b.zone z).group == some g && (b.zone z).held && !(b.zone z).fixed && (b.zone z).refreshOwed
    | none => false := by
  refine List.filter_congr fun k _ => ?_
  cases h : b.positions[k]? with
  | none => simp [Board.zoneOf, h]
  | some pos => simp [Board.zoneOf, h, Zone.releasedOwing]

/-- Settles O23: a hold request from either source reaches the boards, and the end of its event only eases them. -/
theorem holdsApplied : Obligations.HoldsApplied := by
  refine ⟨fun s x g hrun hc hx hb hport => ?_, fun s x g hrun hc hx hb hport => ?_,
    fun s bytes origin g a hrun hd hs hread => ?_, fun b g => ⟨fun a ha => ?_, ?_, ?_⟩⟩
  · obtain ⟨q, hsent, hholds⟩ := Part.sendComplete_of_hold hc hx hb hport
    refine ⟨_, next_whenRunning hrun hsent, (congrArg Console.port hholds.console :),
      (congrArg Console.result hholds.console :), (congrArg Console.flags hholds.console :),
      hholds.quotations, hholds.ribbon, hholds.clock, hholds.panels,
      fun z => ?_, fun k z hz hgroup => hholds.not_mem_dirty hz hgroup⟩
    obtain ⟨hfixed, -, howed⟩ := hholds.zone z
    exact ⟨hfixed, hholds.held z, howed⟩
  · obtain ⟨q, hsent, hholds⟩ := Part.sendComplete_of_hold hc hx hb hport
    exact ⟨_, next_whenRunning hrun hsent, (congrArg Console.port hholds.console :),
      (congrArg Console.result hholds.console :), (congrArg Console.flags hholds.console :),
      hholds.quotations, hholds.ribbon, hholds.clock, hholds.held, hholds.busy⟩
  · obtain ⟨q, l, flags, hheard, hquiet, hholds⟩ := Part.endOfTransmission_of_hold hrun hd hs hread
    exact ⟨_, next_onPart hheard, hholds.sense.trans hquiet, hholds.quotations, hholds.ribbon, hholds.clock,
      (congrArg Console.port hholds.console :), (congrArg Console.result hholds.console :), hholds.panels, hholds.held,
      hholds.busy⟩
  · exact (if_neg (by omega)).trans (if_neg (by omega))
  · exact ⟨rfl, b.zone_holdGroup g, b.dirty_holdGroup g⟩
  · have hrequest : b.requestHold g 1 = b.releaseGroup g := rfl
    refine ⟨?_, fun z => ?_, ?_⟩
    · rw [hrequest, b.releaseGroup_eq]
    · rw [hrequest, b.zone_releaseGroup, Zone.release_eq]
    · have hdirty := b.dirty_releaseGroup g
      rw [b.released_eq] at hdirty
      exact hdirty

end Sys2Proof.Machine
end

section
/-! The console's COMMAND and DATA writes by the status state (R104, R108, R162, R164, R169). -/

namespace Sys2Proof.Machine

/-! ### The rows that are writes to COMMAND (Table 10-3) -/

/-- The command that a row's write to COMMAND gives. -/
def Instr.consoleCommand : Instr → ConsoleCommand
  | .enterSale => .enterSale
  | .enterQuote => .enterQuote
  | .enterState => .enterState
  | .enterNotice => .enterNotice
  | .hold => .hold
  | .release => .release
  | .readRecord => .readRecord
  | .clearStatus => .clearStatus
  | .abortClear => .abortClear
  | .setClock => .setClock
  | .repaint => .repaint
  | .blank => .blank
  | .warmRestart => .warmRestart
  | _ => .unknown

theorem exec_of_mem_commandWrites {w : Instr} (hw : w ∈ commandWrites) (s : State) :
    exec w s = .next (s.onPart (Part.commandWrite (Instr.consoleCommand w))) := by
  fin_cases hw <;> rfl

theorem next_commandWrite {w : Instr} (hw : w ∈ commandWrites) {s : State} {q : Part}
    (h : s.part.commandWrite (Instr.consoleCommand w) = q) : exec w s = .next (s.withPart q) :=
  (exec_of_mem_commandWrites hw s).trans (next_onPart h)

theorem mem_commandWrites_of_body {e : Instr × ConsoleCommand} (he : e ∈ bodyCommands) :
    e.1 ∈ commandWrites ∧ Instr.consoleCommand e.1 = e.2 := by
  revert e
  decide

/-- R164: a command that carries a body begins an entry. -/
theorem Part.commandReady_of_body {e : Instr × ConsoleCommand} (he : e ∈ bodyCommands) (p : Part) :
    p.commandReady e.2 = p.beginEntry e.2 := by
  fin_cases he <;> rfl

theorem consoleCommand_ne_of_ne : ∀ w ∈ commandWrites,
    (w ≠ .clearStatus → Instr.consoleCommand w ≠ .clearStatus) ∧
    (w ≠ .warmRestart → Instr.consoleCommand w ≠ .warmRestart) ∧
    (w ≠ .abortClear → Instr.consoleCommand w ≠ .abortClear) := by
  decide

/-- R162: a code above 13, and 0, names no command. -/
theorem ConsoleCommand.ofCode_of_unnamed {code : Byte} (h : code = 0 ∨ 13 < code.toNat) :
    ConsoleCommand.ofCode code = .unknown := by
  revert code
  decide

/-! ### A COMMAND write by the status state (R162) -/

section
variable {p : Part} {c : ConsoleCommand}

theorem Part.commandWrite_of_ready (h : p.console.port = .ready) : p.commandWrite c = p.commandReady c := by
  simp [Part.commandWrite, h]

theorem Part.commandWrite_of_loading {d : ConsoleCommand} {n : Option Nat} {buf : List Byte}
    (h : p.console.port = .loading d n buf) : p.commandWrite c = (p.setPort .aborted).setResult .none := by
  simp [Part.commandWrite, h]

theorem Part.commandWrite_of_busy {age : Nat} (h : p.console.port = .busy age) (hclear : c ≠ .clearStatus)
    (hrestart : c ≠ .warmRestart) : p.commandWrite c = p.setResult .commandIgnored := by
  cases c <;> simp_all [Part.commandWrite]

theorem Part.commandWrite_clearStatus_of_busy {age : Nat} (h : p.console.port = .busy age) :
    p.commandWrite .clearStatus = p.setResult .none := by
  simp [Part.commandWrite, h]

theorem Part.commandWrite_of_aborted (h : p.console.port = .aborted) :
    p.commandWrite c = if c = .abortClear then (p.setPort .ready).setResult .none else p := by
  simp [Part.commandWrite, h]

/-! ### Commands taken in READY (R104, R108, R169) -/

/-- R169: a command to the boards leaves of the Console Port all but the result. -/
theorem Part.boardCommand_console (b : Board) (r : ResultCode) (p : Part) :
    ((({ p with board := b } : Part).boardKick).setResult r).console = { p.console with result := r } := by
  obtain ⟨f, c, hkick, -⟩ := ({ p with board := b } : Part).boardKick_spec
  rw [Part.setResult_console, hkick]

theorem Part.warmRestart_console (p : Part) : ∃ flags note, p.warmRestart.console = { p.console with
    port := .ready, result := .none, readBuffer := none, readPointer := 0, flags := flags, note := note } := by
  obtain ⟨q, hq, hrestarted⟩ := p.warmRestart_test
  obtain ⟨flags, note, -, hconsole⟩ := hrestarted.console
  obtain ⟨u, rs, l, htest, -⟩ := q.recallTest_spec
  exact ⟨flags, note, by rw [hq, htest, hconsole]⟩

/-- R97: a command to the boards behind work in flight. -/
theorem Part.boardCommand_of_busy {b : Board} (r : ResultCode) (h : b.op ≠ .idle) :
    (({ p with board := b } : Part).boardKick).setResult r =
      { p with console := { p.console with result := r }, board := b } := by
  rw [Part.boardKick_of_busy h]
  rfl

theorem Board.requestBlank_op (b : Board) : b.requestBlank.op = b.op := by
  unfold Board.requestBlank
  split <;> rfl

/-- R108: a blank is served by the one that is pending or under way. -/
theorem Board.requestBlank_of_blank {b : Board} (h : b.blankPending = true ∨ ∃ k, b.op = .blanking k) :
    b.requestBlank = b :=
  if_pos (b.blankUnderWay_iff.mpr h)

/-- R108: a blank becomes pending, and ends a repaint that it holds for after it. -/
theorem Board.requestBlank_of_no_blank {b : Board} (hp : b.blankPending = false) (ho : ∀ k, b.op ≠ .blanking k) :
    b.requestBlank = { b with
      blankPending := true, repaintHeld := b.repaintHeld || b.cursor.isSome, cursor := none } :=
  if_neg (by simp [b.blankUnderWay_iff, hp, ho])

theorem Part.repaint_of_busy (h : p.console.port = .ready) (hop : p.board.op ≠ .idle) : p.commandWrite .repaint =
    { p with console := { p.console with result := .done }, board := p.board.requestRepaint } := by
  rw [Part.commandWrite_of_ready h]
  exact Part.boardCommand_of_busy .done (by rw [Board.requestRepaint_op]; exact hop)

theorem Part.blank_of_busy (h : p.console.port = .ready) (hop : p.board.op ≠ .idle) : p.commandWrite .blank =
    { p with console := { p.console with result := .done }, board := p.board.requestBlank } := by
  rw [Part.commandWrite_of_ready h]
  exact Part.boardCommand_of_busy .done (by rw [Board.requestBlank_op]; exact hop)

/-- R164: an entry begun in READY. -/
theorem exec_of_body {s : State} (h : s.part.console.port = .ready) {e : Instr × ConsoleCommand}
    (he : e ∈ bodyCommands) : exec e.1 s = .next (s.withPart (s.part.beginEntry e.2)) := by
  obtain ⟨hw, hcommand⟩ := mem_commandWrites_of_body he
  refine next_commandWrite hw ?_
  rw [hcommand, Part.commandWrite_of_ready h, Part.commandReady_of_body he]

/-! ### DATA writes (R162, R164) -/

/-- R164: the lengths of Table 10-4. -/
theorem lengthAllowed_iff (c : ConsoleCommand) (v : Byte) : lengthAllowed c v.toNat = true ↔
    (c = .enterSale ∧ v = 11) ∨ (c = .enterQuote ∧ (v = 6 ∨ v = 11 ∨ v = 16)) ∨ (c = .enterState ∧ v = 6) ∨
      (c = .enterNotice ∧ 2 ≤ v.toNat ∧ v.toNat ≤ 65) ∨ ((c = .hold ∨ c = .release) ∧ v = 1) ∨
      (c = .readRecord ∧ v = 5) ∨ (c = .setClock ∧ (v = 4 ∨ v = 5)) := by
  cases c <;> simp [lengthAllowed, ← BitVec.toNat_inj, or_assoc]

/-- R164: the first byte of a body is its length. -/
theorem Part.dataWrite_first {buf : List Byte} (v : Byte) (h : p.console.port = .loading c none buf) :
    p.dataWrite v =
      if lengthAllowed c v.toNat then p.setPort (.loading c (some v.toNat) []) else p.finish .badEntry := by
  simp [Part.dataWrite, h]

/-- R164: a byte before the last joins the buffer. -/
theorem Part.dataWrite_next {buf : List Byte} {n : Nat} (v : Byte) (h : p.console.port = .loading c (some n) buf)
    (hn : buf.length + 1 < n) : p.dataWrite v = p.setPort (.loading c (some n) (buf ++ [v])) := by
  simp [Part.dataWrite, h, hn]

/-- R164: the last byte completes the body. -/
theorem Part.dataWrite_last {buf : List Byte} {n : Nat} (v : Byte) (h : p.console.port = .loading c (some n) buf)
    (hn : n = buf.length + 1) : p.dataWrite v = p.judgeBody c (buf ++ [v]) := by
  simp [Part.dataWrite, h, hn]

/-- R162: outside LOADING a DATA write changes nothing. -/
theorem Part.dataWrite_of_not_loading (v : Byte) (h : ∀ c n buf, p.console.port ≠ .loading c n buf) :
    p.dataWrite v = p := by
  unfold Part.dataWrite
  split
  · exact absurd ‹_› (h _ _ _)
  · exact absurd ‹_› (h _ _ _)
  · rfl

end

/-- Settles O50: each write by the branch that the port, the declared length and the boards choose. -/
theorem readyCommandsTaken : Obligations.ReadyCommandsTaken := by
  refine ⟨fun s h e he => exec_of_body h he, fun s c buf v h => ?_,
    fun s c n buf v h hn => next_onPart (Part.dataWrite_next v h hn), fun s h => ⟨?_, ?_, ?_, ?_⟩⟩
  · have hfirst := Part.dataWrite_first v h
    split
    · rename_i hallowed
      exact next_onPart (hfirst.trans (if_pos ((lengthAllowed_iff c v).mpr hallowed)))
    · rename_i hbad
      exact next_onPart (hfirst.trans (if_neg fun hallowed => hbad ((lengthAllowed_iff c v).mp hallowed)))
  · exact next_onPart (Part.commandWrite_of_ready h)
  · exact next_onPart (Part.commandWrite_of_ready h)
  · intro hop hk hp
    have hblank := Part.blank_of_busy h hop
    rw [Board.requestBlank_of_no_blank hp hk] at hblank
    refine ⟨fun hpositions => ?_, next_onPart hblank⟩
    have hrepaint := Part.repaint_of_busy h hop
    rw [Board.requestRepaint_of_no_blank hp hk hpositions] at hrepaint
    exact next_onPart hrepaint
  · intro hop hb
    have hrepaint := Part.repaint_of_busy h hop
    have hblank := Part.blank_of_busy h hop
    rw [Board.requestRepaint_of_blank hb] at hrepaint
    rw [Board.requestBlank_of_blank hb] at hblank
    exact ⟨next_onPart hrepaint, next_onPart hblank⟩

/-- R162, R169, R173: a command without a body, taken in READY, leaves the port READY. -/
theorem ready_after_bodiless {s : State} (h : s.part.console.port = .ready) {w : Instr}
    (hw : w ∈ [Instr.clearStatus, .abortClear, .repaint, .blank, .warmRestart]) :
    ∃ t, exec w s = .next t ∧ t.part.console.port = .ready ∧
      (w = .clearStatus ∨ w = .warmRestart → t.part.console.result = .none) ∧
      (w = .repaint ∨ w = .blank → t.part.console.result = .done) := by
  simp only [List.mem_cons, List.not_mem_nil, or_false] at hw
  obtain rfl | rfl | rfl | rfl | rfl := hw
  · exact ⟨_, next_onPart (Part.commandWrite_of_ready h), h, fun _ => rfl, nofun⟩
  · exact ⟨_, next_onPart (Part.commandWrite_of_ready h), h, nofun, nofun⟩
  · refine ⟨_, next_onPart (Part.commandWrite_of_ready h), ?_⟩
    rw [State.withPart_part, Part.commandReady, Part.boardCommand_console]
    exact ⟨h, nofun, fun _ => rfl⟩
  · refine ⟨_, next_onPart (Part.commandWrite_of_ready h), ?_⟩
    rw [State.withPart_part, Part.commandReady, Part.boardCommand_console]
    exact ⟨h, nofun, fun _ => rfl⟩
  · obtain ⟨flags, note, hconsole⟩ := s.part.warmRestart_console
    refine ⟨_, next_onPart (Part.commandWrite_of_ready h), ?_⟩
    rw [State.withPart_part, Part.commandReady, hconsole]
    exact ⟨rfl, fun _ => rfl, nofun⟩

/-- Settles O51: each write by the status state that it finds. -/
theorem commandsByStatus : Obligations.CommandsByStatus := by
  intro s
  refine ⟨fun h => ⟨fun e he => exec_of_body h he, fun w hw => ready_after_bodiless h hw⟩, fun age h => ?_,
    fun c n buf v h hn => next_onPart (Part.dataWrite_next v h hn),
    fun c n buf h w hw => next_commandWrite hw (Part.commandWrite_of_loading h),
    fun age h w hw hclear hrestart => ?_, fun age h => next_onPart (Part.commandWrite_clearStatus_of_busy h),
    fun h w hw habort => ?_, fun h => next_onPart (Part.commandWrite_of_aborted h), fun h w hw => ?_,
    fun code hcode => ?_, fun v h => next_onPart (Part.dataWrite_of_not_loading v h)⟩
  · obtain ⟨flags, note, hconsole⟩ := s.part.warmRestart_console
    refine ⟨_, next_onPart (Part.commandWrite_warmRestart (.inr ⟨age, h⟩)), ?_⟩
    rw [State.withPart_part, hconsole]
    exact ⟨rfl, rfl⟩
  · obtain ⟨hclear', hrestart', -⟩ := consoleCommand_ne_of_ne w hw
    exact next_commandWrite hw (Part.commandWrite_of_busy h (hclear' hclear) (hrestart' hrestart))
  · obtain ⟨-, -, habort'⟩ := consoleCommand_ne_of_ne w hw
    exact next_commandWrite hw ((Part.commandWrite_of_aborted h).trans (if_neg (habort' habort)))
  · refine next_commandWrite hw (Part.commandWrite_of_not_serving _ fun ⟨hreading, hfault⟩ => ?_)
    exact h.elim hfault hreading
  · have hexec {q : Part} (h : s.part.commandWrite .unknown = q) :
        exec (.unknownCommandCode code) s = .next (s.withPart q) :=
      next_onPart (ConsoleCommand.ofCode_of_unnamed hcode ▸ h)
    refine ⟨?_, ?_, fun c n buf h => hexec (Part.commandWrite_of_loading h)⟩
    · rintro (h | ⟨age, h⟩)
      · exact hexec (Part.commandWrite_of_ready h)
      · exact hexec (Part.commandWrite_of_busy h nofun nofun)
    · rintro (h | h)
      · exact hexec ((Part.commandWrite_of_aborted h).trans (if_neg nofun))
      · exact hexec (Part.commandWrite_of_not_serving _ fun ⟨_, hfault⟩ => hfault h)

end Sys2Proof.Machine
end

section
/-! The record window, the event flags and the mask (R170 to R172), with the values at the RESET pin. -/

namespace Sys2Proof.Machine

/-! ### Bits of FLAGS and MASK (Table 10-3) -/

/-- The place of a flag's bit. -/
def EventFlag.place : EventFlag → Nat
  | .depletion => 0
  | .tapeLate => 1
  | .duplicateStation => 2
  | .recallUnanswered => 3
  | .configWarning => 4
  | .printsOmitted => 5

theorem EventFlag.and_bit_ne_zero_iff (f : EventFlag) (x : Byte) :
    x &&& f.bit ≠ 0 ↔ x.getLsbD f.place = true := by
  revert x
  cases f <;> decide

/-- A byte whose bits 6 and 7 are 0 is not 0 exactly when it holds a flag. -/
theorem ne_zero_iff_exists_flag {x : Byte} (h : spareBits x = 0) : x ≠ 0 ↔ ∃ f : EventFlag, x &&& f.bit ≠ 0 := by
  have hflag : x ≠ 0 → x &&& 1 ≠ 0 ∨ x &&& 2 ≠ 0 ∨ x &&& 4 ≠ 0 ∨ x &&& 8 ≠ 0 ∨ x &&& 16 ≠ 0 ∨ x &&& 32 ≠ 0 := by
    revert x
    decide
  constructor
  · intro hx
    obtain h | h | h | h | h | h := hflag hx
    exacts [⟨.depletion, h⟩, ⟨.tapeLate, h⟩, ⟨.duplicateStation, h⟩, ⟨.recallUnanswered, h⟩, ⟨.configWarning, h⟩,
      ⟨.printsOmitted, h⟩]
  · rintro ⟨f, hf⟩ rfl
    exact hf BitVec.zero_and

section
variable {c : Console}

/-- R172: ATTN is asserted exactly while a SET flag has its enable set. -/
theorem Console.attn_iff (h : spareBits (c.flags &&& c.mask) = 0) :
    c.attn = true ↔ ∃ f : EventFlag, c.flags &&& f.bit ≠ 0 ∧ c.mask &&& f.bit ≠ 0 := by
  rw [Console.attn, bne_iff_ne, ne_zero_iff_exists_flag h]
  refine exists_congr fun f => ?_
  simp only [f.and_bit_ne_zero_iff, BitVec.getLsbD_and, Bool.and_eq_true]

theorem Console.attn_of_flag {f : EventFlag} (hflag : c.flags &&& f.bit ≠ 0) (hmask : c.mask &&& f.bit ≠ 0) :
    c.attn = true := by
  rw [Console.attn, bne_iff_ne]
  intro hzero
  rw [f.and_bit_ne_zero_iff] at hflag hmask
  have hbit := congrArg (fun x : Byte => x.getLsbD f.place) hzero
  simp [hflag, hmask] at hbit

theorem spareBits_and_eq_zero {x y : Byte} (h : spareBits y = 0) : spareBits (x &&& y) = 0 := by
  rw [spareBits, BitVec.and_assoc]
  exact (congrArg (x &&& ·) h).trans BitVec.and_zero

/-- R172: the enables are those of the byte written. -/
theorem EventFlag.and_enableBits (f : EventFlag) (v : Byte) : (v &&& enableBits) &&& f.bit = v &&& f.bit := by
  have henabled : enableBits &&& f.bit = f.bit := by cases f <;> rfl
  rw [BitVec.and_assoc, henabled]

/-- R172: ATTN with a mask just written. -/
theorem Console.attn_written (c : Console) (v : Byte) : ({ c with mask := v &&& enableBits } : Console).attn = true ↔
    ∃ f : EventFlag, c.flags &&& f.bit ≠ 0 ∧ v &&& f.bit ≠ 0 := by
  have henables : spareBits (v &&& enableBits) = 0 := spareBits_and_eq_zero rfl
  rw [Console.attn_iff (spareBits_and_eq_zero henables)]
  simp only [EventFlag.and_enableBits]

/-! ### Reads and writes of the registers (R170 to R172, R174) -/

theorem Console.dataRead_of_copy {bs : List Byte} {b : Byte} (himage : c.port ≠ .readingImage)
    (hfault : c.port ≠ .configFault) (hcopy : c.readBuffer = some bs) (hb : bs[c.readPointer]? = some b) :
    c.dataRead = { c with
      busByte := b, readPointer := if c.readPointer + 1 = bs.length then 0 else c.readPointer + 1 } := by
  obtain ⟨hlt, -⟩ := List.getElem?_eq_some_iff.mp hb
  have hbyte : byteAt bs c.readPointer = b := by simp [byteAt, List.getD, hb]
  have hpointer : (if c.readPointer + 1 < bs.length then c.readPointer + 1 else 0) =
      if c.readPointer + 1 = bs.length then 0 else c.readPointer + 1 := by
    split_ifs <;> omega
  simp [Console.dataRead, himage, hfault, hcopy, hbyte, hpointer]

theorem Console.dataRead_of_none (h : c.readBuffer = none ∨ c.port = .configFault ∨ c.port = .readingImage) :
    c.dataRead = { c with busByte := 0 } := by
  unfold Console.dataRead
  split
  · rfl
  · rename_i hport
    rw [h.resolve_right fun hport' => hport hport'.symm]

theorem Console.flagsRead_of_read (h : c.port ≠ .readingImage) :
    c.flagsRead = { c with busByte := c.flags, flags := 0 } :=
  if_neg h

theorem Console.maskWrite_of_answered (v : Byte) (himage : c.port ≠ .readingImage) (hfault : c.port ≠ .configFault) :
    c.maskWrite v = { c with mask := v &&& enableBits } :=
  if_neg (not_or.mpr ⟨himage, hfault⟩)

theorem Part.onConsole_of {p : Part} {f : Console → Console} {c : Console} (h : f p.console = c) :
    p.onConsole f = { p with console := c } := by
  rw [Part.onConsole, h]

end

theorem Symbol.bytes_length (s : Symbol) : s.bytes.length = 5 := rfl

theorem sideOr0_length (o : Option Side) : (sideOr0 o).length = 5 :=
  writeSide_length _

/-- R170: the lengths of the fields of Table 10-4 come to 48 bytes. -/
theorem recordCopy_length (r : Record) : (recordCopy r).length = 48 := by
  unfold recordCopy
  simp only [List.length_append, Symbol.bytes_length, toBytes_length, sideOr0_length, List.length_singleton]

/-- Settles O57: each read and write by its branch, ATTN by the bits of FLAGS and MASK. -/
theorem readsAndMask : Obligations.ReadsAndMask := by
  refine ⟨recordCopy_length, fun s => ⟨fun bs n b himage hfault hcopy hn hb => ?_, fun h => ?_⟩, fun c hc => ?_,
    fun f p hmask => ?_, fun s => ⟨fun h => ?_, ?_, fun v himage hfault => ?_, fun v => rfl⟩⟩
  · rw [← hn] at hb ⊢
    exact next_onPart (Part.onConsole_of (Console.dataRead_of_copy himage hfault hcopy hb))
  · exact next_onPart (Part.onConsole_of (Console.dataRead_of_none h))
  · exact Console.attn_iff (spareBits_and_eq_zero hc.2)
  · refine Console.attn_of_flag (f := f) ?_ hmask
    rw [Part.raise_console, f.and_bit_ne_zero_iff, raiseFlag, BitVec.getLsbD_or, Bool.or_eq_true]
    refine .inr ?_
    cases f <;> rfl
  · exact next_onPart (Part.onConsole_of (Console.flagsRead_of_read h))
  · simp [Console.attn]
  · exact ⟨_, next_onPart (Part.onConsole_of (Console.maskWrite_of_answered v himage hfault)), rfl,
      Console.attn_written _ v⟩

/-- Settles O2: the state after reset is a literal. -/
theorem resetValues : Obligations.ResetValues := by
  refine ⟨rfl, rfl, rfl, rfl, rfl, rfl, rfl, rfl, rfl, rfl, rfl, rfl, rfl, rfl, rfl, rfl, rfl, rfl, rfl, rfl,
    fun t => ?_⟩
  simp [Part.terminal, State.reset, Part.reset, Terminal.reset, Vector.get_eq_getElem]

end Sys2Proof.Machine
end

section
/-! SUPPORT. A completed body at the Console Port: the checks of Table 9-3 that reports share, and the offer (R165,
R167). -/

namespace Sys2Proof.Machine

/-! ### The offer of an entry's frame (R167) -/

section
variable {p : Part} {b : TxBody}

/-- R167: with room in the queue and a frame being sent, the entry's frame joins and the port is BUSY. -/
theorem Part.offerEntry_of_room (hlist : p.recalls.list = []) (hq : p.line.queue.length < 16)
    (hc : p.line.current.isSome = true) : p.offerEntry b = { p with
      console := { p.console with port := .busy p.line.nextAge }
      line := { p.line with queue := p.line.queue ++ [⟨p.line.nextAge, b⟩], nextAge := p.line.nextAge + 1 } } := by
  simp only [Part.offerEntry, p.offer_of_sending b hq hc, if_true]
  exact Part.recallTest_of_empty _ hlist

/-- R167: a full queue refuses what is not URGENT. -/
theorem Part.offerEntry_of_full (hq : 16 ≤ p.line.queue.length) (hb : b.frameClass ≠ .urgent) :
    p.offerEntry b = p.finish .queueFull := by
  simp [Part.offerEntry, Part.offer_of_full hq (.inl hb)]

end

/-! ### The event of the last byte (R164) -/

section
variable {s : State} {c : ConsoleCommand} {n : Nat} {buf body : List Byte} {v : Byte}

theorem next_last {q : Part} (h : s.part.console.port = .loading c (some n) buf) (hbody : buf ++ [v] = body)
    (hn : n = body.length) (hq : s.part.judgeBody c body = q) : exec (.dataWrite v) s = .next (s.withPart q) := by
  subst hbody
  exact next_onPart ((Part.dataWrite_last v h (by simpa using hn)).trans hq)

/-- R167: a completed body whose frame is offered to a queue with room. -/
theorem next_offered {b : TxBody} (h : s.part.console.port = .loading c (some n) buf) (hbody : buf ++ [v] = body)
    (hn : n = body.length) (hjudge : s.part.judgeBody c body = s.part.offerEntry b) (hlist : s.part.recalls.list = [])
    (hq : s.part.line.queue.length < 16) (hc : s.part.line.current.isSome = true) :
    exec (.dataWrite v) s = .next (s.offered b) :=
  next_last h hbody hn (hjudge.trans (Part.offerEntry_of_room hlist hq hc))

end

/-! ### Checks 1 to 4 of Table 9-3 (R165) -/

section
variable {p : Part} {sym : Symbol} {r : Record}

/-- R5: a symbol held by a record of its own. -/
def Part.Holding (p : Part) (sym : Symbol) (r : Record) : Prop :=
  (p.lookup sym).bind (fun i => p.records[i]?) = some r

theorem Part.holding_of_lookup {i : Nat} (h : p.lookup sym = some i) (hr : p.records[i]? = some r) :
    p.Holding sym r := by
  rw [Part.Holding, h]
  exact hr

theorem Part.reportRecord_of_listenOnly (h : p.line.listenOnly = true) :
    p.reportRecord sym = .error .listenOnly := by
  simp [Part.reportRecord, h]

theorem Part.reportRecord_of_unheld (hlo : ¬ p.line.listenOnly = true) (h : p.lookup sym = none) :
    p.reportRecord sym = .error .badSymbol := by
  simp [Part.reportRecord, hlo, h]

theorem Part.reportRecord_of_held (hlo : ¬ p.line.listenOnly = true) (hheld : p.Holding sym r) : p.reportRecord sym =
    if r.home ≠ none ∧ r.home ≠ some p.settings.station then .error .notHome
    else if r.shown.doubtful = true then .error .notCurrent
    else .ok r := by
  rw [Part.Holding] at hheld
  rw [Part.reportRecord, if_neg hlo, hheld]
  simp only [Option.isSome_iff_ne_none]

/-- R165: checks 1 to 4 in their order, whatever a failed check and a passed body come to. -/
theorem Part.reportChecked {refused : ResultCode → Prop} {passed : Prop} (hheld : p.Holding sym r)
    (herror : ∀ e, p.reportRecord sym = .error e → refused e) (hok : p.reportRecord sym = .ok r → passed) :
    if p.line.listenOnly = true then refused .listenOnly
    else if r.home ≠ none ∧ r.home ≠ some p.settings.station then refused .notHome
    else if r.shown.doubtful = true then refused .notCurrent
    else passed := by
  split
  · exact herror _ (Part.reportRecord_of_listenOnly ‹_›)
  rename_i hlo
  have hrecord := Part.reportRecord_of_held hlo hheld
  split
  · exact herror _ (hrecord.trans (if_pos ‹_›))
  rw [if_neg ‹_›] at hrecord
  split
  · exact herror _ (hrecord.trans (if_pos ‹_›))
  · exact hok (hrecord.trans (if_neg ‹_›))

end

/-! ### Prices and revisions (R165, R167) -/

/-- R165: a price out of range or off the instrument's finest fraction. -/
theorem stepOk_eq_false_iff (step price : Nat) :
    stepOk step price = false ↔ 639999 < price ∨ price % (64 / step) ≠ 0 := by
  rw [stepOk, Config.maxPrice, Bool.and_eq_false_iff, decide_eq_false_iff_not, beq_eq_false_iff_ne, not_le]

/-- R167: the revision after a record's own, none counting as 0. -/
theorem nextRevision_eq (r : Record) : nextRevision r = ((r.revision.getD 0).toNat + 1) % 4096 :=
  BitVec.toNat_add _ _

end Sys2Proof.Machine
end

section
/-! The completed ENTER SALE (R165, R167, Table 9-3). -/

namespace Sys2Proof.Machine

section
variable {p : Part} {b : List Byte} {r : Record}

/-- Check 5 for a SALE: the day OPEN, the record neither HALTED nor CLOSED, the clock SET. -/
theorem Part.saleStamp_eq_none_iff : p.saleStamp r = none ↔
    (∀ d, p.clock.session ≠ some ⟨d, .opened⟩) ∨ p.clock.time = none ∨ r.shown.state = .halted ∨
      r.shown.state = .closed := by
  unfold Part.saleStamp
  rcases hsession : p.clock.session with _ | ⟨d, _ | _⟩
  · simp
  · cases htime : p.clock.time <;> simp [or_iff_not_imp_left]
  · simp

theorem Part.saleStamp_of_open {d : Day} {now : TimeOfDay} (hstamp : p.saleStamp r ≠ none)
    (hsession : p.clock.session = some ⟨d, .opened⟩) (htime : p.clock.time = some now) :
    p.saleStamp r = some (d, now.seconds) := by
  simp only [Part.saleStamp, hsession, htime] at hstamp ⊢
  exact if_neg fun hshut => hstamp (if_pos hshut)

theorem Part.judgeSale_of_error {e : ResultCode} (h : p.reportRecord (.ofList b) = .error e) :
    p.judgeSale b = p.finish e := by
  simp [Part.judgeSale, h]

variable (h : p.reportRecord (.ofList b) = .ok r)
include h

theorem Part.judgeSale_of_unstamped (hstamp : p.saleStamp r = none) : p.judgeSale b = p.finish .notOpen := by
  simp [Part.judgeSale, h, hstamp]

variable {stamp : Day × Nat} (hstamp : p.saleStamp r = some stamp)
include hstamp

variable {price volume : Nat} (hpriceAt : field b 5 3 = price) (hvolumeAt : field b 8 3 = volume)
include hpriceAt

theorem Part.judgeSale_of_badPrice (hprice : 639999 < price ∨ price % (64 / r.priceStep) ≠ 0) :
    p.judgeSale b = p.finish .badPrice := by
  simp [Part.judgeSale, h, hstamp, hpriceAt, (stepOk_eq_false_iff _ _).mpr hprice]

variable (hprice : ¬ (639999 < price ∨ price % (64 / r.priceStep) ≠ 0))
include hvolumeAt hprice

theorem Part.judgeSale_of_badVolume (hvolume : volume = 0 ∨ 9999999 < volume) :
    p.judgeSale b = p.finish .badVolume := by
  rw [← stepOk_eq_false_iff] at hprice
  simp [Part.judgeSale, h, hstamp, hpriceAt, hvolumeAt, hprice, hvolume, Config.maxSaleVolume]

theorem Part.judgeSale_of_sound (hvolume : ¬ (volume = 0 ∨ 9999999 < volume)) :
    p.judgeSale b = p.offerEntry (.sale
      { symbol := r.symbol, day := stamp.1, revision := nextRevision r, tradeTime := stamp.2, price := price
        volume := volume }) := by
  rw [← stepOk_eq_false_iff] at hprice
  simp [Part.judgeSale, h, hstamp, hpriceAt, hvolumeAt, hprice, hvolume, Config.maxSaleVolume]

end

/-- Settles O54: the checks of Table 9-3 in their order, then the offer. -/
theorem saleEntryJudged : Obligations.SaleEntryJudged := by
  intro s buf v sym price volume i r hport hbody hprice hvolume hlookup hr hsym hlist refused
  set body : List Byte := sym.bytes ++ toBytes 3 price ++ toBytes 3 volume
  have hpriceAt : field body 5 3 = price := field_of_drop (by rfl) hprice
  have hvolumeAt : field body 8 3 = volume := field_of_drop (rest := []) (by rfl) hvolume
  have hheld := Part.holding_of_lookup hlookup hr
  have hjudged {q : Part} (h : s.part.judgeSale body = q) : exec (.dataWrite v) s = .next (s.withPart q) :=
    next_last hport hbody rfl h
  refine Part.reportChecked (sym := .ofList body) hheld (fun e h => hjudged (Part.judgeSale_of_error h))
    fun hrecord => ?_
  split
  · exact hjudged (Part.judgeSale_of_unstamped hrecord (Part.saleStamp_eq_none_iff.mpr ‹_›))
  have hopen : s.part.saleStamp r ≠ none := fun hnone => absurd (Part.saleStamp_eq_none_iff.mp hnone) ‹_›
  obtain ⟨stamp, hstamp⟩ := Option.ne_none_iff_exists'.mp hopen
  split
  · exact hjudged (Part.judgeSale_of_badPrice hrecord hstamp hpriceAt ‹_›)
  rename_i hstep
  split
  · exact hjudged (Part.judgeSale_of_badVolume hrecord hstamp hpriceAt hvolumeAt hstep ‹_›)
  rename_i hsize
  intro d now hsession htime hq hc
  obtain rfl : (d, now.seconds) = stamp :=
    Option.some.inj ((Part.saleStamp_of_open hopen hsession htime).symm.trans hstamp)
  have hsound := Part.judgeSale_of_sound hrecord hstamp hpriceAt hvolumeAt hstep hsize
  rw [hsym, nextRevision_eq] at hsound
  exact next_offered hport hbody rfl hsound hlist hq hc

end Sys2Proof.Machine
end

section
/-! The completed ENTER QUOTE and ENTER STATE (R165, R167, Tables 9-3 and 10-4). -/

namespace Sys2Proof.Machine

/-! ### The body of an ENTER QUOTE (Table 10-4) -/

/-- R8: a presence byte with a spare bit set. -/
theorem presenceSpare_iff (pr : Byte) : presenceSpare pr = true ↔ 4 ≤ pr.toNat := by
  revert pr
  decide

/-- A body of ENTER QUOTE that reads as a symbol, a presence byte and the sides that it gives. -/
structure QuoteBody (b : List Byte) (sym : Symbol) (pr : Byte) (bid ask : Option Side) : Prop where
  symbol : Symbol.ofList b = sym
  presence : byteAt b 5 = pr
  length : b.length = quoteLength 6 pr
  spare : presenceSpare pr = false
  bid : sideIf (pr.getLsbD 0) b 6 = bid
  ask : sideIf (pr.getLsbD 1) b (6 + sizeIf (pr.getLsbD 0) 5) = ask

theorem quoteBody_of_bytes {sym : Symbol} {pr : Byte} {bid ask : Option Side} (hbit0 : pr.getLsbD 0 = bid.isSome)
    (hbit1 : pr.getLsbD 1 = ask.isSome) (hspare : pr.toNat < 4)
    (hbid : ∀ x ∈ bid, x.price < 16777216 ∧ x.size < 65536) (hask : ∀ x ∈ ask, x.price < 16777216 ∧ x.size < 65536) :
    QuoteBody (sym.bytes ++ [pr] ++ writeOption writeSide bid ++ writeOption writeSide ask) sym pr bid ask := by
  have hlength := writeOption_length (f := writeSide) writeSide_length
  have hsides : (sym.bytes ++ [pr] ++ writeOption writeSide bid ++ writeOption writeSide ask).drop 6 =
      writeOption writeSide bid ++ writeOption writeSide ask := by
    rw [List.append_assoc (sym.bytes ++ [pr])]
    rfl
  refine ⟨rfl, rfl, ?_, ?_, ?_, ?_⟩
  · simp only [List.length_append, Symbol.bytes_length, List.length_singleton, hlength, quoteLength, hbit0, hbit1]
  · rw [← Bool.not_eq_true, presenceSpare_iff]
    omega
  · rw [hbit0]
    exact sideIf_of_drop hsides hbid
  · rw [hbit0, hbit1]
    refine sideIf_of_drop (rest := []) ?_ hask
    rw [← List.drop_drop, hsides, List.append_nil]
    exact List.drop_left' (hlength bid)

/-! ### The sides (R165) -/

/-- R165: a side whose price is out of range or off the instrument's finest fraction. -/
theorem sideStepOk_eq_false_iff (step : Nat) (o : Option Side) : sideStepOk step o = false ↔
    ∃ x ∈ o.toList, 639999 < x.price ∨ x.price % (64 / step) ≠ 0 := by
  cases o with
  | none => simp [sideStepOk]
  | some x => simp only [sideStepOk, stepOk_eq_false_iff, Option.toList_some, List.mem_singleton, exists_eq_left]

theorem sideSizeOk_eq_false_iff (o : Option Side) : sideSizeOk o = false ↔
    ∃ x ∈ o.toList, x.size = 0 ∨ 9999 < x.size := by
  cases o with
  | none => simp [sideSizeOk]
  | some x =>
    rw [sideSizeOk, Bool.and_eq_false_iff, decide_eq_false_iff_not, decide_eq_false_iff_not, not_le, not_le,
      Nat.lt_one_iff, Config.maxSize]
    simp only [Option.toList_some, List.mem_singleton, exists_eq_left]

theorem crossed_iff (bid ask : Option Side) : crossed bid ask = true ↔
    ∃ x ∈ bid.toList, ∃ y ∈ ask.toList, y.price < x.price := by
  cases bid <;> cases ask <;> simp [crossed]

/-- A side of two that meets a condition, whichever it is. -/
theorem exists_mem_sides_iff {P : Side → Prop} (bid ask : Option Side) :
    (∃ x ∈ bid.toList ++ ask.toList, P x) ↔ (∃ x ∈ bid.toList, P x) ∨ ∃ x ∈ ask.toList, P x := by
  simp only [List.mem_append, or_and_right, exists_or]

/-! ### The judgement of an ENTER QUOTE (R165) -/

section
variable {p : Part} {b : List Byte} {sym : Symbol} {pr : Byte} {bid ask : Option Side} {r : Record} {d : Day}

/-- Table 10-4: a presence byte that disagrees with the length, or has a spare bit set, is BAD ENTRY. -/
theorem Part.judgeQuote_of_badPresence (hpr : byteAt b 5 = pr)
    (h : b.length ≠ quoteLength 6 pr ∨ presenceSpare pr = true) : p.judgeQuote b = p.finish .badEntry := by
  simp only [Part.judgeQuote, hpr]
  exact if_pos h

variable (hbody : QuoteBody b sym pr bid ask)
include hbody

theorem Part.judgeQuote_of_error {e : ResultCode} (h : p.reportRecord sym = .error e) :
    p.judgeQuote b = p.finish e := by
  simp [Part.judgeQuote, hbody.presence, hbody.length, hbody.spare, hbody.symbol, h]

variable (h : p.reportRecord sym = .ok r)
include h

theorem Part.judgeQuote_of_unset (hday : p.day = none) : p.judgeQuote b = p.finish .notOpen := by
  simp [Part.judgeQuote, hbody.presence, hbody.length, hbody.spare, hbody.symbol, h, hday]

variable (hday : p.day = some d)
include hday

theorem Part.judgeQuote_of_record : p.judgeQuote b =
    if !(sideStepOk r.priceStep bid && sideStepOk r.priceStep ask) then p.finish .badPrice
    else if !(sideSizeOk bid && sideSizeOk ask) || crossed bid ask then p.finish .badQuote
    else p.offerEntry (.quote
      { symbol := r.symbol, day := d, revision := nextRevision r, presence := pr, bid := bid, ask := ask }) := by
  simp only [Part.judgeQuote, hbody.presence, hbody.length, hbody.spare, hbody.symbol, hbody.bid, hbody.ask, h, hday,
    ne_eq, not_true_eq_false, Bool.false_eq_true, or_self, if_false]

theorem Part.judgeQuote_of_badPrice
    (hprice : ∃ x ∈ bid.toList ++ ask.toList, 639999 < x.price ∨ x.price % (64 / r.priceStep) ≠ 0) :
    p.judgeQuote b = p.finish .badPrice := by
  rw [exists_mem_sides_iff, ← sideStepOk_eq_false_iff, ← sideStepOk_eq_false_iff] at hprice
  rw [Part.judgeQuote_of_record hbody h hday, if_pos (by simpa [imp_iff_not_or] using hprice)]

variable (hprice : ¬ ∃ x ∈ bid.toList ++ ask.toList, 639999 < x.price ∨ x.price % (64 / r.priceStep) ≠ 0)
include hprice

theorem Part.judgeQuote_of_goodPrice : p.judgeQuote b =
    if !(sideSizeOk bid && sideSizeOk ask) || crossed bid ask then p.finish .badQuote
    else p.offerEntry (.quote
      { symbol := r.symbol, day := d, revision := nextRevision r, presence := pr, bid := bid, ask := ask }) := by
  rw [exists_mem_sides_iff, ← sideStepOk_eq_false_iff, ← sideStepOk_eq_false_iff] at hprice
  rw [Part.judgeQuote_of_record hbody h hday, if_neg (by simpa using hprice)]

theorem Part.judgeQuote_of_badQuote (hquote : (∃ x ∈ bid.toList ++ ask.toList, x.size = 0 ∨ 9999 < x.size) ∨
    ∃ x ∈ bid.toList, ∃ y ∈ ask.toList, y.price < x.price) : p.judgeQuote b = p.finish .badQuote := by
  rw [exists_mem_sides_iff, ← sideSizeOk_eq_false_iff, ← sideSizeOk_eq_false_iff, ← crossed_iff] at hquote
  rw [Part.judgeQuote_of_goodPrice hbody h hday hprice, if_pos (by simpa [imp_iff_not_or] using hquote)]

theorem Part.judgeQuote_of_sound (hquote : ¬ ((∃ x ∈ bid.toList ++ ask.toList, x.size = 0 ∨ 9999 < x.size) ∨
    ∃ x ∈ bid.toList, ∃ y ∈ ask.toList, y.price < x.price)) : p.judgeQuote b = p.offerEntry (.quote
      { symbol := r.symbol, day := d, revision := nextRevision r, presence := pr, bid := bid, ask := ask }) := by
  rw [exists_mem_sides_iff, ← sideSizeOk_eq_false_iff, ← sideSizeOk_eq_false_iff, ← crossed_iff] at hquote
  rw [Part.judgeQuote_of_goodPrice hbody h hday hprice, if_neg (by simpa using hquote)]

end

/-! ### The judgement of an ENTER STATE (R165) -/

section
variable {p : Part} {b : List Byte} {r : Record} {d : Day}

theorem Part.judgeState_of_error {e : ResultCode} (h : p.reportRecord (.ofList b) = .error e) :
    p.judgeState b = p.finish e := by
  simp [Part.judgeState, h]

variable (h : p.reportRecord (.ofList b) = .ok r)
include h

theorem Part.judgeState_of_unset (hday : p.day = none) : p.judgeState b = p.finish .notOpen := by
  simp [Part.judgeState, h, hday]

variable (hday : p.day = some d) {code : Nat} (hcodeAt : field b 5 1 = code)
include hday hcodeAt

theorem Part.judgeState_of_badState (hcode : ¬ (1 ≤ code ∧ code ≤ 3)) : p.judgeState b = p.finish .badState := by
  simp only [Part.judgeState, h, hday, hcodeAt]
  exact if_neg hcode

theorem Part.judgeState_of_sound (hcode : 1 ≤ code ∧ code ≤ 3) : p.judgeState b =
    p.offerEntry (.state { symbol := r.symbol, day := d, revision := nextRevision r, code := code }) := by
  simp only [Part.judgeState, h, hday, hcodeAt]
  exact if_pos hcode

end

/-! ### The statement's three parts -/

section
variable {s : State} {buf : List Byte} {v : Byte} {sym : Symbol} {n : Nat}

/-- R165: a report on a symbol that is not held. -/
theorem reportUnheld {body : List Byte} {c : ConsoleCommand} (hport : s.part.console.port = .loading c (some n) buf)
    (hn : buf.length + 1 = n) (hbody : buf ++ [v] = sym.bytes ++ body) (hlookup : s.part.lookup sym = none)
    (hlo : s.part.line.listenOnly = false)
    (hc : (c = .enterSale ∧ n = 11) ∨ (c = .enterState ∧ n = 6) ∨ (c = .enterQuote ∧ n = 6 ∧ body = [0])) :
    exec (.dataWrite v) s = .next (s.finished .badSymbol) := by
  have herror : s.part.reportRecord sym = .error .badSymbol :=
    Part.reportRecord_of_unheld (ne_true_of_eq_false hlo) hlookup
  have hlength : n = (sym.bytes ++ body).length := by rw [← hbody, ← hn, List.length_append, List.length_singleton]
  refine next_last hport hbody hlength ?_
  obtain ⟨rfl, -⟩ | ⟨rfl, -⟩ | ⟨rfl, -, rfl⟩ := hc
  · exact Part.judgeSale_of_error herror
  · exact Part.judgeState_of_error herror
  · exact Part.judgeQuote_of_error
      (quoteBody_of_bytes (pr := 0) (bid := none) (ask := none) rfl rfl (by decide) nofun nofun) herror

end

/-- Settles O55: the checks of Tables 9-3 and 10-4 in their order, then the offer. -/
theorem quoteAndStateEntriesJudged : Obligations.QuoteAndStateEntriesJudged := by
  refine ⟨fun s buf v pr n hport hn hpr hbad => ?_,
    fun s buf body v sym n c hport hn hbody hlookup hlo hc => reportUnheld hport hn hbody hlookup hlo hc, ?_⟩
  · have hlength : n = (buf ++ [v]).length := by rw [← hn, List.length_append, List.length_singleton]
    have hbyte : byteAt (buf ++ [v]) 5 = pr := by simp [byteAt, List.getD, hpr]
    refine next_last hport rfl hlength (Part.judgeQuote_of_badPresence hbyte ?_)
    rw [← hlength, presenceSpare_iff]
    exact hbad
  · intro s buf v sym i r n hlookup hr hsym hlist hn refused
    have hheld := Part.holding_of_lookup hlookup hr
    refine ⟨fun pr bid ask hport hbody hbit0 hbit1 hspare hbid hask => ?_, fun code hport hbody => ?_⟩
    · have hlength := congrArg List.length hbody
      rw [List.length_append, List.length_singleton, hn] at hlength
      have hquote := quoteBody_of_bytes (sym := sym) hbit0 hbit1 hspare hbid hask
      have hjudged {q : Part} (h : s.part.judgeQuote _ = q) : exec (.dataWrite v) s = .next (s.withPart q) :=
        next_last hport hbody hlength h
      refine Part.reportChecked hheld (fun e h => hjudged (Part.judgeQuote_of_error hquote h)) fun hrecord => ?_
      split
      · exact hjudged (Part.judgeQuote_of_unset hquote hrecord ‹_›)
      obtain ⟨day, hday⟩ := Option.ne_none_iff_exists'.mp ‹¬ s.part.day = none›
      split
      · exact hjudged (Part.judgeQuote_of_badPrice hquote hrecord hday ‹_›)
      rename_i hprice
      split
      · exact hjudged (Part.judgeQuote_of_badQuote hquote hrecord hday hprice ‹_›)
      have hsound := Part.judgeQuote_of_sound hquote hrecord hday hprice ‹_›
      split
      · exact hjudged (hsound.trans (Part.offerEntry_of_full ‹_› nofun))
      rename_i hroom
      intro d hd hc
      obtain rfl : day = d := Option.some.inj (hday.symm.trans hd)
      rw [hsym, nextRevision_eq] at hsound
      exact next_offered hport hbody hlength hsound hlist (Nat.not_le.mp hroom) hc
    · have hcodeAt : field (sym.bytes ++ [code]) 5 1 = code.toNat := field_of_drop_cons rfl
      have hcode : code = 0 ∨ 3 < code.toNat ↔ ¬ (1 ≤ code.toNat ∧ code.toNat ≤ 3) := by
        have hzero : code = 0 ↔ code.toNat = 0 := BitVec.toNat_inj.symm
        rw [hzero]
        omega
      have hjudged {q : Part} (h : s.part.judgeState (sym.bytes ++ [code]) = q) :
          exec (.dataWrite v) s = .next (s.withPart q) :=
        next_last hport hbody rfl h
      refine Part.reportChecked (sym := .ofList (sym.bytes ++ [code])) hheld
        (fun e h => hjudged (Part.judgeState_of_error h)) fun hrecord => ?_
      split
      · exact hjudged (Part.judgeState_of_unset hrecord ‹_›)
      obtain ⟨day, hday⟩ := Option.ne_none_iff_exists'.mp ‹¬ s.part.day = none›
      split
      · exact hjudged (Part.judgeState_of_badState hrecord hday hcodeAt (hcode.mp ‹_›))
      intro d hd hq hc
      obtain rfl : day = d := Option.some.inj (hday.symm.trans hd)
      have hsound := Part.judgeState_of_sound hrecord hday hcodeAt (not_not.mp (hcode.not.mp ‹_›))
      rw [hsym, nextRevision_eq] at hsound
      exact next_offered hport hbody rfl hsound hlist hq hc

end Sys2Proof.Machine
end

section
/-! The completed ENTER NOTICE, HOLD, RELEASE, READ RECORD and SET CLOCK (R80, R115, R166, R167, R170). -/

namespace Sys2Proof.Machine

/-! ### Notices and holds (R166) -/

/-- R115: the group has a zone, and every zone of it is FIXED. -/
theorem Board.groupFixed_iff (b : Board) (g : Nat) : b.groupFixed g = true ↔
    (∃ z, (b.zone z).group = some g) ∧ ∀ z, (b.zone z).group = some g → (b.zone z).fixed = true := by
  have hmem (x : Zone) : x ∈ b.zones.toList ↔ ∃ z, b.zone z = x := by
    simp only [Vector.mem_toList_iff, Vector.mem_iff_getElem, Board.zone, Vector.get_eq_getElem]
    exact ⟨fun ⟨i, hi, h⟩ => ⟨⟨i, hi⟩, h⟩, fun ⟨z, h⟩ => ⟨z.val, z.isLt, h⟩⟩
  simp only [Board.groupFixed, Bool.and_eq_true, Bool.not_eq_true', List.isEmpty_eq_false_iff_exists_mem,
    List.all_eq_true, List.mem_filter, beq_iff_eq, hmem, and_imp, forall_exists_index, forall_apply_eq_imp_iff,
    exists_exists_eq_and]

section
variable {p : Part} {u g : Byte} {text : List Byte}

/-- R166: an urgency above 1, or a text of no or of more than 64 characters, is BAD ENTRY. -/
theorem Part.judgeNotice_of_bad (h : 1 < u.toNat ∨ text = [] ∨ 64 < text.length) :
    p.judgeNotice (u :: text) = p.finish .badEntry := by
  have hurgency : field (u :: text) 0 1 = u.toNat := field_of_drop_cons rfl
  simp only [Part.judgeNotice, hurgency, List.drop_one, List.tail_cons]
  exact if_pos h

theorem Part.judgeNotice_of_good (hurgent : u.toNat ≤ 1) (htext : text ≠ []) (hlength : text.length ≤ 64) :
    p.judgeNotice (u :: text) =
      if p.line.listenOnly then p.finish .listenOnly else p.offerEntry (.notice u.toNat text) := by
  have hurgency : field (u :: text) 0 1 = u.toNat := field_of_drop_cons rfl
  simp only [Part.judgeNotice, hurgency, List.drop_one, List.tail_cons]
  exact if_neg (by simp [htext]; omega)

/-- R166: a group above 15 is BAD ENTRY. -/
theorem Part.judgeGroup_of_bad (h : 15 < g.toNat) :
    p.judgeHold [g] = p.finish .badEntry ∧ p.judgeRelease [g] = p.finish .badEntry := by
  have hgroup : field [g] 0 1 = g.toNat := field_of_drop_cons rfl
  simp only [Part.judgeHold, Part.judgeRelease, hgroup]
  exact ⟨if_pos h, if_pos h⟩

variable (h : g.toNat ≤ 15)
include h

theorem Part.judgeHold_of_good : p.judgeHold [g] =
    if p.line.listenOnly then p.finish .listenOnly
    else if p.board.groupFixed g.toNat then p.finish .zoneFixed
    else p.offerEntry (.hold g.toNat 0) := by
  have hgroup : field [g] 0 1 = g.toNat := field_of_drop_cons rfl
  simp only [Part.judgeHold, hgroup]
  exact if_neg (by omega)

theorem Part.judgeRelease_of_good : p.judgeRelease [g] =
    if p.line.listenOnly then p.finish .listenOnly else p.offerEntry (.hold g.toNat 1) := by
  have hgroup : field [g] 0 1 = g.toNat := field_of_drop_cons rfl
  simp only [Part.judgeRelease, hgroup]
  exact if_neg (by omega)

end

/-! ### READ RECORD and SET CLOCK (R80, R170) -/

section
variable {p : Part} {sym : Symbol} {r : Record}

theorem Part.judgeReadRecord_of_unheld (h : p.lookup sym = none) :
    p.judgeReadRecord sym.bytes = p.finish .badSymbol := by
  have hsymbol : Symbol.ofList sym.bytes = sym := rfl
  simp [Part.judgeReadRecord, hsymbol, h]

/-- R170: the record is copied whole, and the read pointer set to the first byte. -/
theorem Part.judgeReadRecord_of_held (h : p.Holding sym r) : p.judgeReadRecord sym.bytes = { p with
    console := { p.console with
      port := .ready, result := .done, readBuffer := some (recordCopy r), readPointer := 0 } } := by
  have hsymbol : Symbol.ofList sym.bytes = sym := rfl
  rw [Part.Holding] at h
  simp only [Part.judgeReadRecord, hsymbol, h]
  rfl

variable {w h m n : Byte}

/-- R80: a time without a day. -/
theorem Part.setClock_of_undated (t : TimeOfDay) : p.setClock t none = p.setTime t := by
  cases hsession : p.clock.session <;> simp [Part.setClock, Part.setTime, hsession]

/-- R80: a day that comes with the time sets an unset day, with phase CLOSED. -/
theorem Part.setClock_of_dated (t : TimeOfDay) (d : Day) : p.setClock t (some d) = { p with clock := { p.clock with
    time := some t, session := some (p.clock.session.getD ⟨d, .closed⟩) } } := by
  cases hsession : p.clock.session <;> simp [Part.setClock, Part.setTime, hsession]

/-- R80: the first four bytes of a body of SET CLOCK give the time. -/
theorem setClock_fields (w h m n : Byte) (rest : List Byte) :
    field (w :: h :: m :: n :: rest) 0 1 = w.toNat ∧ field (w :: h :: m :: n :: rest) 1 1 = h.toNat ∧
      field (w :: h :: m :: n :: rest) 2 1 = m.toNat ∧ field (w :: h :: m :: n :: rest) 3 1 = n.toNat :=
  ⟨field_of_drop_cons rfl, field_of_drop_cons rfl, field_of_drop_cons rfl, field_of_drop_cons rfl⟩

theorem Part.judgeSetClock_of_outOfRange (rest : List Byte)
    (hrange : ¬ timeInRange w.toNat h.toNat m.toNat n.toNat = true) :
    p.judgeSetClock (w :: h :: m :: n :: rest) = p.finish .badEntry := by
  obtain ⟨hw, hh, hm, hn⟩ := setClock_fields w h m n rest
  simp only [Part.judgeSetClock, hw, hh, hm, hn]
  exact if_neg hrange

theorem Part.judgeSetClock_of_inRange (rest : List Byte) (hlist : p.recalls.list = [])
    (hrange : timeInRange w.toNat h.toNat m.toNat n.toNat = true) :
    p.judgeSetClock (w :: h :: m :: n :: rest) = (p.setClock (timeOf w.toNat h.toNat m.toNat n.toNat)
      (if rest.length + 4 = 5 then some (byteAt rest 0) else none)).finish .done := by
  obtain ⟨hw, hh, hm, hn⟩ := setClock_fields w h m n rest
  simp only [Part.judgeSetClock, hw, hh, hm, hn, hrange, if_true]
  refine Part.recallTest_of_empty _ ?_
  rw [Part.finish_recalls]
  split
  · rw [Part.setClock_of_dated]
    exact hlist
  · rw [Part.setClock_of_undated]
    exact hlist

end

/-- Settles O56: each completed body by the first check that fails, or by what it does. -/
theorem otherEntriesJudged : Obligations.OtherEntriesJudged := by
  refine ⟨fun s buf v u text n hlist hport hn hbody => ?_, fun s g hlist => ⟨fun hport => ?_, fun hg hlo => ?_⟩,
    fun s buf v sym hport hbody => ?_, fun s w h m sec day hlist => ?_⟩
  · have hlength : n = (u :: text).length := by rw [← hbody, ← hn, List.length_append, List.length_singleton]
    have hjudged {q : Part} (h : s.part.judgeNotice (u :: text) = q) : exec (.dataWrite v) s = .next (s.withPart q) :=
      next_last hport hbody hlength h
    refine ⟨fun hbad => hjudged (Part.judgeNotice_of_bad hbad), fun hurgent htext hshort => ?_⟩
    have hgood := Part.judgeNotice_of_good (p := s.part) hurgent htext hshort
    refine ⟨fun hlo => hjudged (hgood.trans (if_pos hlo)), fun hlo => ?_⟩
    rw [if_neg (ne_true_of_eq_false hlo)] at hgood
    exact ⟨fun hfull => hjudged (hgood.trans (Part.offerEntry_of_full hfull nofun)),
      fun hroom hc => next_offered hport hbody hlength hgood hlist hroom hc⟩
  · refine ⟨fun hbad => ?_, fun hg hlo => ?_⟩
    · obtain ⟨hhold, hrelease⟩ := Part.judgeGroup_of_bad (p := s.part) hbad
      obtain hport | hport := hport
      · exact next_last hport rfl rfl hhold
      · exact next_last hport rfl rfl hrelease
    · obtain hport | hport := hport
      · exact next_last hport rfl rfl ((Part.judgeHold_of_good hg).trans (if_pos hlo))
      · exact next_last hport rfl rfl ((Part.judgeRelease_of_good hg).trans (if_pos hlo))
  · have hhold := Part.judgeHold_of_good (p := s.part) hg
    have hrelease := Part.judgeRelease_of_good (p := s.part) hg
    rw [if_neg (ne_true_of_eq_false hlo)] at hhold hrelease
    refine ⟨fun hport => ⟨fun hzone hfixed => ?_, fun hfree hq hc => ?_⟩,
      fun hport hq hc => next_offered hport rfl rfl hrelease hlist hq hc⟩
    · exact next_last hport rfl rfl (hhold.trans (if_pos ((s.part.board.groupFixed_iff _).mpr ⟨hzone, hfixed⟩)))
    · have hnotFixed : ¬ s.part.board.groupFixed g.toNat = true := by
        rw [Board.groupFixed_iff]
        rintro ⟨⟨z, hz⟩, hfixed⟩
        obtain hnone | ⟨y, hy, hmoving⟩ := hfree
        · exact hnone z hz
        · exact absurd ((hfixed y hy).symm.trans hmoving) nofun
      exact next_offered hport rfl rfl (hhold.trans (if_neg hnotFixed)) hlist hq hc
  · refine ⟨fun hlookup => next_last hport hbody rfl (Part.judgeReadRecord_of_unheld hlookup), fun i r hlookup hr => ?_⟩
    exact next_last hport hbody rfl (Part.judgeReadRecord_of_held (Part.holding_of_lookup hlookup hr))
  · intro inRange time
    have hrange : timeInRange w.toNat h.toNat m.toNat sec.toNat = true ↔ inRange := timeInRange_iff _ _ _ _
    refine ⟨fun hport => ⟨fun hin => ?_, fun hout => ?_⟩, fun hport hin => ?_⟩
    · have hset := Part.judgeSetClock_of_inRange [] hlist (hrange.mpr hin)
      rw [if_neg (by decide), Part.setClock_of_undated] at hset
      exact next_last hport rfl rfl hset
    · exact next_last hport rfl rfl (Part.judgeSetClock_of_outOfRange [] (hrange.not.mpr hout))
    · have hset := Part.judgeSetClock_of_inRange [day] hlist (hrange.mpr hin)
      rw [if_pos (by rfl), Part.setClock_of_dated] at hset
      refine next_last hport rfl rfl (hset.trans ?_)
      cases s.part.clock.session <;> rfl

end Sys2Proof.Machine
end

section
/-! SUPPORT. What the image configured of the boards (R93 to R95), and that no operation of the Board Writer changes
it (R178). -/

namespace Sys2Proof.Machine

/-- What a position item configures of a position (R93): all but its flash (R102). -/
def Position.place (q : Position) : Option Nat × Nat × ZoneId × Nat × Nat :=
  (q.record, q.layout, q.zone, q.panel, q.firstCell)

/-- What a zone item configures of a zone (R95). -/
def Zone.kind (z : Zone) : Bool × Option Nat :=
  (z.fixed, z.group)

/-- What the image configures of the boards. -/
def Board.plan (b : Board) : List (Option Layout) × List (Option Nat × Nat × ZoneId × Nat × Nat) ×
    Vector (Bool × Option Nat) 16 :=
  (b.layouts, b.positions.map Position.place, b.zones.map Zone.kind)

section
variable {b c : Board}

theorem Board.plan_congr (hl : c.layouts = b.layouts)
    (hp : c.positions.map Position.place = b.positions.map Position.place)
    (hz : ∀ z, (c.zone z).kind = (b.zone z).kind) : c.plan = b.plan := by
  have hzones : c.zones.map Zone.kind = b.zones.map Zone.kind := by
    refine Vector.ext fun i hi => ?_
    simpa [Board.zone, Vector.get_eq_getElem] using hz ⟨i, hi⟩
  rw [Board.plan, hl, hp, hzones, ← Board.plan]

theorem Zone.Owing.kind {z z' : Zone} (h : z.Owing z') : z'.kind = z.kind := by
  rcases h with rfl | rfl
  · rfl
  · simp [Zone.kind]

/-- A change that eases the board and keeps its layouts and places keeps its plan: a zone that comes to owe is the
zone that was configured. -/
theorem Board.Eases.plan (h : b.Eases c) (hl : c.layouts = b.layouts)
    (hp : c.positions.map Position.place = b.positions.map Position.place) : c.plan = b.plan :=
  Board.plan_congr hl hp fun z => (h.zone z).kind

theorem Board.plan_mapZones {f : Zone → Zone} (hf : ∀ z, (f z).kind = z.kind) :
    ({ b with zones := b.zones.map f } : Board).plan = b.plan :=
  Board.plan_congr rfl rfl fun z => by rw [Board.zone, get_zones_map, hf, ← Board.zone]

variable (b)

/-! ### The choice of work (R97, R105 to R107) -/

@[simp] theorem Board.chooseWork_plan : b.chooseWork.plan = b.plan := by
  have heases := b.chooseWork_eases
  obtain ⟨zs, d, o, cur, n, h⟩ := b.chooseWork_spec
  rw [h] at heases ⊢
  exact heases.plan rfl rfl

@[simp] theorem Board.oweZone_plan (z : ZoneId) : (b.oweZone z).plan = b.plan :=
  (b.oweZone_eases z).plan rfl rfl

@[simp] theorem Board.mark_plan (k : Nat) : (b.mark k).plan = b.plan := by
  obtain ⟨zs, d, h, rfl | ⟨z, -, -, rfl⟩, -⟩ := b.mark_spec k <;> rw [h]
  · rfl
  · exact b.oweZone_plan z

@[simp] theorem Board.markAll_plan (ks : List Nat) : (b.markAll ks).plan = b.plan := by
  induction ks generalizing b with
  | nil => rfl
  | cons k ks ih => exact (ih (b.mark k)).trans (b.mark_plan k)

@[simp] theorem Board.completeBlank_plan : b.completeBlank.plan = b.plan := by
  have hzones := b.plan_mapZones (f := fun z => if z.held then z.owe else z) fun z => by
    split <;> simp [Zone.kind]
  unfold Board.completeBlank
  simp only
  split
  · exact hzones
  · exact (Board.markAll_plan _ _).trans hzones

@[simp] theorem Board.choose_plan : b.choose.plan = b.plan := by
  unfold Board.choose
  split
  · split
    · exact (Board.chooseWork_plan _).trans (Board.completeBlank_plan _)
    · rfl
  · exact b.chooseWork_plan

/-! ### Requests, flashes and holds (R102 to R104, R108, R111 to R113) -/

@[simp] theorem Board.requestRepaint_plan : b.requestRepaint.plan = b.plan := by
  unfold Board.requestRepaint
  split <;> rfl

@[simp] theorem Board.requestBlank_plan : b.requestBlank.plan = b.plan := by
  unfold Board.requestBlank
  split <;> rfl

/-- R93, R102: a flash written keeps the place of every position. -/
theorem map_place_map {f : Position → Position} (hf : ∀ q, (f q).place = q.place) (ps : List Position) :
    (ps.map f).map Position.place = ps.map Position.place := by
  rw [List.map_map]
  exact List.map_congr_left fun q _ => hf q

@[simp] theorem Board.startFlash_plan (i : Nat) : (b.startFlash i).plan = b.plan := by
  refine (b.startFlash_eases i).plan rfl (map_place_map (fun q => ?_) b.positions)
  split <;> rfl

@[simp] theorem Board.setFlash_plan (k : Nat) (on : Bool) : (b.setFlash k on).plan = b.plan := by
  refine (b.setFlash_eases k on).plan rfl (List.ext_getElem? fun j => ?_)
  rw [Board.setFlash_positions, List.getElem?_map, List.getElem?_map, List.getElem?_modify]
  cases b.positions[j]? with
  | none => rfl
  | some q => by_cases hj : k = j <;> simp [hj, Position.place]

@[simp] theorem Board.flashExpiry_plan (k : Nat) : (b.flashExpiry k).plan = b.plan := by
  unfold Board.flashExpiry
  split
  · split <;> simp
  · rfl

theorem Zone.release_kind (g : Nat) (z : Zone) : (z.release g).kind = z.kind := by
  unfold Zone.release
  split <;> rfl

@[simp] theorem Board.requestHold_plan (g a : Nat) : (b.requestHold g a).plan = b.plan := by
  unfold Board.requestHold
  split
  · exact b.plan_mapZones fun z => by split <;> simp [Zone.kind]
  · split
    · exact (Board.markAll_plan _ _).trans (b.plan_mapZones fun z => z.release_kind g)
    · rfl

/-! ### Formations, panel writes and the warm restart (R96 to R98, R109, R117, R177) -/

@[simp] theorem Board.putBack_plan (k : Nat) : (b.putBack k).plan = b.plan := by
  unfold Board.putBack
  split
  · rfl
  · split
    · exact b.oweZone_plan _
    · rfl

@[simp] theorem Board.formed_plan (k : Nat) (src : Source) (cs : List PanelCell) :
    (b.formed k src cs).plan = b.plan := by
  unfold Board.formed
  split
  · split <;> simp
  · split
    · split <;> simp
    · rfl

@[simp] theorem Board.latchPosition_plan (k : Nat) (cs : List PanelCell) : (b.latchPosition k cs).plan = b.plan := by
  unfold Board.latchPosition
  split <;> rfl

@[simp] theorem Board.writeComplete_plan : b.writeComplete.plan = b.plan := by
  unfold Board.writeComplete
  split
  · simp
  · rename_i k _
    have hlatched := b.latchPosition_plan k (b.blankCells k)
    simp only
    split
    · exact hlatched
    · exact (Board.choose_plan _).trans ((Board.completeBlank_plan _).trans hlatched)
  · simp only
    split <;> rfl
  · rfl
  · rfl

@[simp] theorem Board.warmRestart_plan : b.warmRestart.plan = b.plan :=
  Board.plan_congr rfl
    (map_place_map (f := fun q => { q with flash := false }) (fun _ => rfl) b.positions) fun _ => rfl

end

end Sys2Proof.Machine
end

section
/-! SUPPORT. What the image configured, with the load's state (R178): what it is read of, and the operations of a
running station that leave it. -/

namespace Sys2Proof.Machine

/-! ### What is read -/

/-- What an instrument item configures of a record (R1). -/
def Record.instrument (r : Record) : Symbol × Option Nat × Nat × Bool :=
  (r.symbol, r.home, r.priceStep, r.tapeExclude)

def Part.instruments (p : Part) : List (Symbol × Option Nat × Nat × Bool) :=
  p.records.map Record.instrument

/-- The configuration that the image gave, with the state of the load that gave it. -/
def Part.image (p : Part) : Configured × Loader :=
  (p.configured, p.loader)

section
variable {p q : Part}

theorem Part.image_iff : q.image = p.image ↔ q.configured = p.configured ∧ q.loader = p.loader :=
  Prod.mk_inj

/-- The configuration is read of the settings, the tables, the instruments, the boards' plan and the Timetable. -/
theorem Part.configured_eq (p : Part) : p.configured =
    { settings := p.settings, directory := p.directory, instruments := p.instruments, layouts := p.board.plan.1
      positions := p.board.plan.2.1, zones := p.board.plan.2.2.toList, pages := p.pages
      timetable := p.clock.timetable } := by
  simp only [Board.plan, Vector.toList_map]
  rfl

/-- A change of records and boards alone. -/
theorem Part.image_of_tables {rs : List Record} {b : Board} (hrs : rs.map Record.instrument = p.instruments)
    (hb : b.plan = p.board.plan) : ({ p with records := rs, board := b } : Part).image = p.image := by
  refine Part.image_iff.mpr ⟨?_, rfl⟩
  rw [Part.configured_eq, Part.configured_eq, Part.instruments, hrs, hb]

theorem Part.image_of_board {b : Board} (h : b.plan = p.board.plan) : ({ p with board := b } : Part).image = p.image :=
  Part.image_of_tables rfl h

theorem Part.image_of_records {rs : List Record} (h : rs.map Record.instrument = p.instruments) :
    ({ p with records := rs } : Part).image = p.image :=
  Part.image_of_tables h rfl

/-- R7: a recall state is not configured. -/
theorem RecallOnly.instruments {old new : List Record} (h : RecallOnly old new) :
    new.map Record.instrument = old.map Record.instrument := by
  have hread := congrArg (List.map Record.instrument) h
  rw [List.map_map, List.map_map] at hread
  exact hread

theorem Part.image_of_recallOnly {rs : List Record} (h : RecallOnly p.records rs) :
    ({ p with records := rs } : Part).image = p.image :=
  Part.image_of_records h.instruments

theorem map_instrument_modify {f : Record → Record} (hf : ∀ r, (f r).instrument = r.instrument) (i : Nat)
    (rs : List Record) : (rs.modify i f).map Record.instrument = rs.map Record.instrument := by
  refine List.ext_getElem? fun j => ?_
  rw [List.getElem?_map, List.getElem?_map, List.getElem?_modify]
  cases rs[j]? with
  | none => rfl
  | some r => by_cases hj : i = j <;> simp [hj, hf]

end

/-! ### The Formatter and its requesters (R25, R26, R97, R131, R146) -/

section
variable (p : Part)

theorem Part.modifyRecord_image (i : Nat) {f : Record → Record} (hf : ∀ r, (f r).instrument = r.instrument) :
    (p.modifyRecord i f).image = p.image :=
  Part.image_of_records (map_instrument_modify hf i p.records)

@[simp] theorem Part.setRecallState_image (i : Nat) (x : RecallState) : (p.setRecallState i x).image = p.image :=
  p.modifyRecord_image i fun _ => rfl

@[simp] theorem Part.endFormation_image : p.endFormation.image = p.image := by
  obtain ⟨f, rib, h, -⟩ := p.endFormation_spec
  rw [h]; rfl

@[simp] theorem Part.boardRequest_image : p.boardRequest.image = p.image := by
  obtain ⟨f, h⟩ := p.boardRequest_spec
  rw [h]; rfl

@[simp] theorem Part.boardKick_image : p.boardKick.image = p.image := by
  obtain ⟨f, b, h, hb⟩ := p.boardKick_spec
  rw [h]
  refine Part.image_of_board (p := { p with formatter := f }) ?_
  rcases hb with rfl | ⟨-, rfl⟩
  · rfl
  · exact p.board.choose_plan

@[simp] theorem Part.termKick_image (k : TerminalId) : (p.termKick k).image = p.image := by
  obtain ⟨f, x, h, -⟩ := p.termKick_spec k
  rw [h]; rfl

@[simp] theorem Part.ribbonRequest_image : p.ribbonRequest.image = p.image := by
  obtain ⟨f, rib, h, -⟩ := p.ribbonRequest_spec
  rw [h]; rfl

@[simp] theorem Part.onTape_image (g : TapeEnv → Tape → Tape) : (p.onTape g).image = p.image := by
  obtain ⟨f, rib, h, -⟩ := p.onTape_spec g
  rw [h]; rfl

@[simp] theorem Part.takeFrame_image : p.takeFrame.image = p.image := by
  obtain ⟨l, h, -⟩ := p.takeFrame_spec
  rw [h]; rfl

@[simp] theorem Part.offer_image (b : TxBody) : (p.offer b).1.image = p.image := by
  obtain ⟨u, rs, l, h, hr, -⟩ := p.offer_spec b
  rw [h]
  exact Part.image_of_recallOnly (p := { p with recalls := u, line := l }) hr

@[simp] theorem Part.recallTest_image : p.recallTest.image = p.image := by
  obtain ⟨u, rs, l, h, hr, -⟩ := p.recallTest_spec
  rw [h]
  exact Part.image_of_recallOnly (p := { p with recalls := u, line := l }) hr

/-- The end of an event leaves what the image configured. -/
@[simp] theorem Part.settle_image : p.settle.image = p.image := by
  obtain ⟨f, b, ts, u, rs, l, h, hb, hr, -⟩ := p.settle_spec
  rw [h]
  refine Part.image_of_tables (p := { p with formatter := f, terminals := ts, recalls := u, line := l })
    hr.instruments ?_
  rcases hb with rfl | ⟨-, rfl⟩
  · rfl
  · exact p.board.choose_plan

@[simp] theorem Part.markDependents_image (old : List Record) : (p.markDependents old).image = p.image :=
  Part.image_of_board (p := { p with terminals := p.terminals.map (Terminal.mark (changedRecord old p.records)) })
    (p.board.markAll_plan _)

@[simp] theorem Part.freeSlot_image (i : Nat) : (p.freeSlot i).image = p.image := by
  obtain ⟨q, h, -⟩ := p.freeSlot_spec i
  rw [h]; rfl

@[simp] theorem Part.dropReply_image (i : Nat) : (p.dropReply i).image = p.image := by
  obtain ⟨rs, q, h, -⟩ := p.dropReply_spec i
  rw [h]; rfl

@[simp] theorem Part.checkOrigin_image (origin : Nat) : (p.checkOrigin origin).image = p.image := by
  unfold Part.checkOrigin
  split <;> rfl

@[simp] theorem Part.offerOwn_image (b : TxBody) : (p.offerOwn b).image = p.image := by
  unfold Part.offerOwn
  split
  · rfl
  · exact p.offer_image b

@[simp] theorem Part.tapeCandidate_image (c : SaleContents) : (p.tapeCandidate c).image = p.image := by
  unfold Part.tapeCandidate
  split
  · exact p.onTape_image _
  · rfl

@[simp] theorem Part.noticeArrives_image (u : Nat) (text : List Byte) : (p.noticeArrives u text).image = p.image := by
  unfold Part.noticeArrives
  split
  · exact p.onTape_image _
  · rfl

@[simp] theorem Part.holdArrives_image (g a : Nat) : (p.holdArrives g a).image = p.image :=
  Part.image_of_board (p.board.requestHold_plan g a)

/-! ### The Recall Unit (R47 to R56, R62) -/

theorem Part.returnToHead_image (i : Nat) : (p.returnToHead i).image = p.image := by
  obtain ⟨u, rs, h, hr⟩ := p.returnToHead_spec i
  rw [h]
  exact Part.image_of_recallOnly (p := { p with recalls := u }) hr

theorem Part.paceExpiry_image : p.paceExpiry.image = p.image := by
  unfold Part.paceExpiry
  split
  · exact Part.recallTest_image _
  · rfl

theorem Part.resend_image (i : Nat) : (p.resend i).image = p.image := by
  unfold Part.resend
  simp only
  split
  · exact Part.offer_image _ _
  · exact (Part.returnToHead_image _ i).trans (Part.offer_image _ _)

theorem Part.waitExpiry_image (i : Nat) : (p.waitExpiry i).image = p.image := by
  have hfreed (x : RecallState) : ((p.freeSlot i).setRecallState i x).image = p.image :=
    (Part.setRecallState_image _ i x).trans (p.freeSlot_image i)
  unfold Part.waitExpiry
  split
  · split
    · rfl
    · split
      · exact hfreed .listed
      · split
        · exact (Part.recallTest_image _).trans (p.resend_image i)
        · exact (Part.recallTest_image _).trans (hfreed .unanswered)
  · rfl

theorem Part.queueReply_image (i : Nat) : (p.queueReply i).image = p.image := by
  unfold Part.queueReply
  simp only
  split <;> exact Part.offer_image _ _

theorem Part.holdoffExpiry_image (i : Nat) : (p.holdoffExpiry i).image = p.image := by
  unfold Part.holdoffExpiry
  split
  · split
    · split
      · exact p.queueReply_image i
      · rfl
    · rfl
  · rfl

theorem Part.suppress_image (i : Nat) (r : Record) : (p.suppress i r).image = p.image := by
  unfold Part.suppress
  split
  · split
    · exact Part.setRecallState_image _ i _
    · rfl
  · split
    · split
      · split <;> rfl
      · rfl
    · rfl
  · rfl
  · rfl

theorem Part.answer_image (i : Nat) (r : Record) : (p.answer i r).image = p.image := by
  unfold Part.answer
  split
  · simp only
    split
    · exact Part.holdoffExpiry_image _ i
    · rfl
  · rfl

theorem Part.recallHeard_image (x : Symbol) (d : Day) : (p.recallHeard x d).image = p.image := by
  unfold Part.recallHeard
  split
  · rfl
  · split
    · rfl
    · split
      · exact (Part.answer_image _ _ _).trans (p.suppress_image _ _)
      · rfl

/-! ### Judgement and rollovers (R6 to R24) -/

theorem Part.makeDoubtful_image (i : Nat) : (p.makeDoubtful i).image = p.image := by
  have hdoubt : (p.modifyRecord i fun r => { r with shown := { r.shown with doubtful := true } }).image = p.image :=
    p.modifyRecord_image i fun _ => rfl
  unfold Part.makeDoubtful
  split
  · rfl
  · simp only
    split
    · have hlisted := (Part.setRecallState_image _ i .listed).trans hdoubt
      split
      · exact (Part.dropReply_image _ i).trans hlisted
      · exact hlisted
    · exact hdoubt

theorem Part.satisfyRecall_image (i : Nat) (before : RecallState) : (p.satisfyRecall i before).image = p.image := by
  have hnone := p.setRecallState_image i .none
  cases before with
  | outstanding => exact (Part.freeSlot_image _ i).trans hnone
  | listed | unanswered | none => exact hnone

/-- R11: an application writes no configured field, and a flash is none (R102). -/
theorem Part.applied_image (c : Contents) (i : Nat) (r : Record) : (p.applied c i r).image = p.image := by
  have happly : (p.modifyRecord i c.applyTo).image = p.image := p.modifyRecord_image i fun _ => rfl
  unfold Part.applied
  simp only
  split
  · exact (Part.image_of_board (Board.startFlash_plan _ i)).trans happly
  · exact happly

theorem Part.applyContents_image (c : Contents) (i : Nat) (r : Record) : (p.applyContents c i r).image = p.image := by
  have happlied := p.applied_image c i r
  cases hg : c.gate r with
  | ignored => rw [Part.applyContents_of_ignored hg]
  | applied doubt =>
    cases c with
    | reply x =>
      rw [Part.applyContents_reply hg]
      exact (Part.satisfyRecall_image _ _ _).trans happlied
    | sale x | quote x | state x =>
      rw [Part.applyContents_report (fun y => Contents.noConfusion) hg]
      split
      · exact (Part.makeDoubtful_image _ _).trans happlied
      · exact happlied

theorem Part.adoptDay_image (d : Day) : (p.adoptDay d).image = p.image := by
  unfold Part.adoptDay
  split <;> rfl

theorem Part.judgeCore_image (c : Contents) : (p.judgeCore c).image = p.image := by
  have hday := p.adoptDay_image c.day
  unfold Part.judgeCore
  split
  · simp only
    split
    · exact hday
    · split
      · exact hday
      · split
        · exact (Part.applyContents_image _ _ _ _).trans hday
        · exact hday
  · split
    · exact p.makeDoubtful_image _
    · rfl

@[simp] theorem Part.judge_image (c : Contents) : (p.judge c).image = p.image :=
  (Part.markDependents_image _ _).trans (p.judgeCore_image c)

theorem Part.replyHeard_image (c : ReplyContents) : (p.replyHeard c).image = p.image := by
  refine (Part.judge_image _ _).trans ?_
  split
  · split
    · split
      · exact p.dropReply_image _
      · rfl
    · rfl
  · rfl

theorem Part.rollover_image {f : Record → Record} (hf : ∀ r, (f r).instrument = r.instrument) (x : SessionDay) :
    (p.rollover f x).image = p.image := by
  refine (Part.markDependents_image _ _).trans ?_
  refine Part.image_of_records (p := { p with clock := { p.clock with session := some x } }) ?_
  rw [List.map_map]
  exact List.map_congr_left fun r _ => hf r

@[simp] theorem Part.openDay_image (d : Day) : (p.openDay d).image = p.image :=
  p.rollover_image (f := Record.openRollover d) (fun _ => rfl) _

@[simp] theorem Part.closeDay_image (d : Day) : (p.closeDay d).image = p.image :=
  p.rollover_image (f := Record.closeRollover) (fun _ => rfl) _

end

end Sys2Proof.Machine
end

section
/-! The configuration lock (R178): no command but a full reset changes what the image configured, once it is read. -/

namespace Sys2Proof.Machine

section
variable (p : Part)

/-! ### Session Clock and Timetable (R79 to R90, R108) -/

@[simp] theorem Part.blankAtClose_image : p.blankAtClose.image = p.image := by
  unfold Part.blankAtClose
  split
  · exact Part.image_of_board p.board.requestBlank_plan
  · rfl

theorem Part.openAction_image : p.openAction.image = p.image := by
  unfold Part.openAction
  split <;> simp

theorem Part.closeAction_image : p.closeAction.image = p.image := by
  unfold Part.closeAction
  split <;> simp

theorem Part.sessionHeard_image (d : Day) (phase : Nat) : (p.sessionHeard d phase).image = p.image := by
  unfold Part.sessionHeard
  split
  · rfl
  · rfl
  · split <;> simp
  · split <;> simp
  · rfl

theorem Part.performAction_image (hour minute : Nat) (a : TimetableAction) :
    (p.performAction hour minute a).image = p.image := by
  refine (Part.settle_image _).trans ?_
  cases a with
  | openSession => exact p.openAction_image
  | closeSession => exact p.closeAction_image
  | tapeTime => exact p.onTape_image fun env => Tape.join env .routine (.tapeTime hour minute)
  | repaint => exact Part.image_of_board p.board.requestRepaint_plan
  | sendClock =>
    simp only
    split
    · exact p.offerOwn_image .clock
    · rfl

theorem Part.minuteBoundary_image (t : TimeOfDay) : (p.minuteBoundary t).image = p.image := by
  have hfold (hour minute : Nat) (es : List TimetableEntry) (q : Part) :
      (es.foldl (fun q e => q.performAction hour minute e.action) q).image = q.image := by
    induction es generalizing q with
    | nil => rfl
    | cons e es ih =>
      rw [List.foldl_cons]
      exact (ih _).trans (q.performAction_image hour minute e.action)
  exact hfold _ _ _ p

theorem Part.secondExpiry_image : p.secondExpiry.image = p.image := by
  cases h : p.clock.time with
  | none => rw [Part.secondExpiry_of_unset h]
  | some t =>
    rw [Part.secondExpiry_of_set h]
    split
    · exact Part.minuteBoundary_image _ _
    · rfl

theorem Part.setClock_image (t : TimeOfDay) (day : Option Day) : (p.setClock t day).image = p.image := by
  unfold Part.setClock
  simp only
  split <;> rfl

theorem Part.clockHeard_image (w h m s : Nat) : (p.clockHeard w h m s).image = p.image := by
  unfold Part.clockHeard
  split <;> rfl

/-! ### Frames heard and frames sent (R64 to R68, R74) -/

theorem Part.saleArrives_image (c : SaleContents) : (p.saleArrives c).image = p.image := by
  simp [Part.saleArrives]

theorem Part.handFrame_image (b : FrameBody) : (p.handFrame b).image = p.image := by
  cases b with
  | sale c => exact p.saleArrives_image c
  | quote c => exact p.judge_image (.quote c)
  | state c => exact p.judge_image (.state c)
  | recallFor x d => exact p.recallHeard_image x d
  | reply c => exact p.replyHeard_image c
  | notice u text => exact p.noticeArrives_image u text
  | session d phase => exact p.sessionHeard_image d phase
  | clock w h m s => exact p.clockHeard_image w h m s
  | hold g a => exact p.holdArrives_image g a

theorem Part.judgeFrame_image (bytes : List Byte) : (p.judgeFrame bytes).image = p.image := by
  unfold Part.judgeFrame
  split
  · rfl
  · exact (Part.settle_image _).trans ((Part.handFrame_image _ _).trans (p.checkOrigin_image _))

theorem Part.endOfTransmission_image (bytes : List Byte) : (p.endOfTransmission bytes).image = p.image := by
  unfold Part.endOfTransmission
  split
  · rfl
  · simp only
    split
    · exact Part.judgeFrame_image _ bytes
    · rfl

theorem Part.handOn_image (b : TxBody) : (p.handOn b).image = p.image := by
  cases b with
  | sale c => exact p.saleArrives_image c
  | quote c => exact p.judge_image (.quote c)
  | state c => exact p.judge_image (.state c)
  | notice u text => exact p.noticeArrives_image u text
  | hold g a => exact p.holdArrives_image g a
  | recallFor i | reply i | session d phase | clock => rfl

theorem Part.entryOutcome_image (f : QueuedFrame) (sent : Bool) : (p.entryOutcome f sent).image = p.image := by
  have hand (q : Part) : (if sent then (q.handOn f.body).settle else q).image = q.image := by
    split
    · exact (Part.settle_image _).trans (q.handOn_image f.body)
    · rfl
  unfold Part.entryOutcome
  split
  · exact hand _
  · split
    · exact hand _
    · rfl

theorem Part.ownerOutcome_image (f : QueuedFrame) (sent : Bool) : (p.ownerOutcome f sent).image = p.image := by
  unfold Part.ownerOutcome
  cases f.body with
  | recallFor i | reply i | session d phase | clock => rfl
  | sale c | quote c | state c | notice u text | hold g a => exact p.entryOutcome_image f sent

theorem Part.endSend_image (sent : Bool) : (p.endSend sent).image = p.image := by
  unfold Part.endSend
  split
  · rfl
  · rename_i x _
    exact (Part.takeFrame_image _).trans (p.ownerOutcome_image x.frame sent)

theorem Part.sendComplete_image : p.sendComplete.image = p.image := by
  unfold Part.sendComplete
  split
  · exact p.endSend_image true
  · rfl

theorem Part.clash_image : p.clash.image = p.image := by
  unfold Part.clash
  split
  · rfl
  · split
    · rfl
    · split
      · rfl
      · exact p.endSend_image false

/-! ### The panel chain, the ribbon and the terminals (R96 to R98, R103, R129, R132, R146 to R155) -/

theorem Part.boardFormed_image : p.boardFormed.image = p.image := by
  unfold Part.boardFormed
  split
  · split
    · exact (Part.endFormation_image _).trans
        ((Part.boardRequest_image _).trans (Part.image_of_board (p.board.formed_plan _ _ _)))
    · rfl
  · rfl

theorem Part.panelWriteComplete_image : p.panelWriteComplete.image = p.image := by
  unfold Part.panelWriteComplete
  split
  · rfl
  · rfl
  · exact (Part.boardRequest_image _).trans (Part.image_of_board p.board.writeComplete_plan)

theorem Part.flashExpiry_image (k : Nat) : (p.flashExpiry k).image = p.image := by
  unfold Part.flashExpiry
  split
  · split
    · exact (Part.boardKick_image _).trans (Part.image_of_board (p.board.flashExpiry_plan k))
    · rfl
  · rfl

/-- R42: the last printed whole is not configured. -/
theorem Part.writeLastWhole_image (w : Option (Nat × Nat)) : (p.writeLastWhole w).image = p.image := by
  unfold Part.writeLastWhole
  split
  · exact p.modifyRecord_image _ fun _ => rfl
  · rfl

theorem Part.ribbonFormed_image : p.ribbonFormed.image = p.image := by
  unfold Part.ribbonFormed
  split
  · exact (Part.endFormation_image _).trans ((Part.ribbonRequest_image _).trans (Part.writeLastWhole_image _ _))
  · rfl

theorem Part.terminalFormed_image : p.terminalFormed.image = p.image := by
  unfold Part.terminalFormed
  split
  · split
    · exact Part.endFormation_image _
    · rfl
  · rfl

theorem Part.advanceExpiry_image (ready : Bool) : (p.advanceExpiry ready).image = p.image := by
  unfold Part.advanceExpiry
  split
  · rfl
  · split
    · exact Part.onTape_image _ _
    · rfl
    · rfl
    · rfl

theorem Part.runComplete_image (k : TerminalId) : (p.runComplete k).image = p.image := by
  unfold Part.runComplete
  split
  · exact Part.termKick_image _ k
  · rfl

theorem Part.highlightExpiry_image (k : TerminalId) (row : Nat) : (p.highlightExpiry k row).image = p.image := by
  unfold Part.highlightExpiry
  split
  · rfl
  · split
    · split
      · exact Part.termKick_image _ k
      · rfl
    · rfl

theorem Part.keyReceived_image (k : TerminalId) (b : Byte) (fault : Bool) :
    (p.keyReceived k b fault).image = p.image := by
  unfold Part.keyReceived
  split
  · rfl
  · exact Part.termKick_image _ k

/-! ### Console (R162 to R173) -/

theorem Part.offerEntry_image (b : TxBody) : (p.offerEntry b).image = p.image := by
  unfold Part.offerEntry
  simp only
  split
  · exact (Part.recallTest_image _).trans (p.offer_image b)
  · exact p.offer_image b

variable {p} in
theorem Part.Answered.image {q : Part} (h : p.Answered q) : q.image = p.image := by
  cases h with
  | finished r => rfl
  | offered b => exact p.offerEntry_image b

theorem Part.judgeReadRecord_image (bs : List Byte) : (p.judgeReadRecord bs).image = p.image := by
  unfold Part.judgeReadRecord
  split <;> rfl

theorem Part.judgeSetClock_image (bs : List Byte) : (p.judgeSetClock bs).image = p.image := by
  unfold Part.judgeSetClock
  simp only
  split
  · exact (Part.recallTest_image _).trans (p.setClock_image _ _)
  · rfl

theorem Part.judgeBody_image (c : ConsoleCommand) (bs : List Byte) : (p.judgeBody c bs).image = p.image := by
  cases c with
  | enterSale => exact (p.judgeSale_answered bs).image
  | enterQuote => exact (p.judgeQuote_answered bs).image
  | enterState => exact (p.judgeState_answered bs).image
  | enterNotice => exact (p.judgeNotice_answered bs).image
  | hold => exact (p.judgeHold_answered bs).image
  | release => exact (p.judgeRelease_answered bs).image
  | readRecord => exact p.judgeReadRecord_image bs
  | setClock => exact p.judgeSetClock_image bs
  | clearStatus | abortClear | repaint | blank | warmRestart | unknown => rfl

theorem Part.dataWrite_image (v : Byte) : (p.dataWrite v).image = p.image := by
  unfold Part.dataWrite
  split
  · split <;> rfl
  · split
    · rfl
    · exact p.judgeBody_image _ _
  · rfl

/-- R173: the blocks restarted keep the configuration. -/
theorem Part.warmRestart_image : p.warmRestart.image = p.image := by
  have hrestarted : p.boardsRestarted.image = p.image := by
    obtain ⟨u, rs, hrecall⟩ := p.formatterRestart.recallRestart_spec
    have hrecords := p.formatterRestart.recallRestart_recallOnly
    have hboard : p.formatterRestart.recallRestart.queueRestart.image = p.image := by
      rw [hrecall] at hrecords ⊢
      exact Part.image_of_recallOnly
        (p := { p with formatter := Formatter.reset, recalls := u, line := { p.line with queue := [] } }) hrecords
    exact (Part.image_of_board (Board.warmRestart_plan _)).trans hboard
  have hport (q : Part) : q.portRestarted.image = q.image := q.onTape_image Tape.warmRestart
  rw [p.warmRestart_eq, Part.settle_image, hport, Part.boardKick_image, hrestarted]

/-- R169: a command that asks the Board Writer for work, with its result. -/
theorem Part.boardCommand_image {b : Board} (hb : b.plan = p.board.plan) (r : ResultCode) :
    ((({ p with board := b } : Part).boardKick).setResult r).image = p.image :=
  (Part.boardKick_image _).trans (Part.image_of_board hb)

theorem Part.commandReady_image (c : ConsoleCommand) : (p.commandReady c).image = p.image := by
  cases c with
  | warmRestart => exact p.warmRestart_image
  | repaint => exact p.boardCommand_image p.board.requestRepaint_plan .done
  | blank => exact p.boardCommand_image p.board.requestBlank_plan .done
  | enterSale | enterQuote | enterState | enterNotice | hold | release | readRecord | setClock | clearStatus
  | abortClear | unknown => rfl

theorem Part.commandWrite_image (c : ConsoleCommand) : (p.commandWrite c).image = p.image := by
  unfold Part.commandWrite
  split
  · exact p.commandReady_image c
  · rfl
  · split
    · rfl
    · exact p.warmRestart_image
    · rfl
  · split <;> rfl
  · rfl
  · rfl

/-! ### Every command -/

variable {p}

theorem Part.whenRunning_image {f : Part → Part} (h : (f p).image = p.image) : (p.whenRunning f).image = p.image := by
  unfold Part.whenRunning
  split
  · exact h
  · rfl

/-- The load is over: locked, or stopped by a fault (R177, R178). -/
def Part.Loaded (p : Part) : Prop :=
  p.loader.phase = .locked ∨ p.loader.phase = .fault

/-- R175: after the load no bytes of an image are read. -/
theorem Part.Loaded.itemRead (h : p.Loaded) (bytes : List Byte) : p.itemRead bytes = p := by
  have hcurrent : p.loader.current = none := by
    unfold Loader.current
    rcases h with h | h <;> rw [h]
  simp [Part.itemRead, hcurrent]

theorem Part.Loaded.loadCompletion (h : p.Loaded) (balance : Word16) : p.loadCompletion balance = p := by
  refine if_neg fun hitems => ?_
  rcases h with h | h <;> simp [h] at hitems

end

/-- After the load every command but a full reset has a next state with the configuration and the load as they were. -/
theorem exec_image {s : State} (h : s.part.Loaded) (c : Instr) (hreset : c ≠ .fullReset) :
    ∃ t, exec c s = .next t ∧ t.part.image = s.part.image := by
  have hkey (k : TerminalId) (b : Byte) (fault : Bool) :
      (s.part.whenRunning (Part.keyReceived k b fault)).image = s.part.image :=
    Part.whenRunning_image (s.part.keyReceived_image k b fault)
  cases c with
  | fullReset => exact absurd rfl hreset
  | configItemRead bytes => exact ⟨_, rfl, congrArg Part.image (h.itemRead bytes)⟩
  | loadCompletion balance => exact ⟨_, rfl, congrArg Part.image (h.loadCompletion balance)⟩
  | endOfTransmission bytes => exact ⟨_, rfl, s.part.endOfTransmission_image bytes⟩
  | lineBusy => exact ⟨_, rfl, rfl⟩
  | interframeGapExpiry | backoffExpiry => exact ⟨_, rfl, Part.whenRunning_image rfl⟩
  | sendComplete => exact ⟨_, rfl, Part.whenRunning_image s.part.sendComplete_image⟩
  | clash => exact ⟨_, rfl, Part.whenRunning_image s.part.clash_image⟩
  | paceExpiry => exact ⟨_, rfl, Part.whenRunning_image s.part.paceExpiry_image⟩
  | waitExpiry i => exact ⟨_, rfl, Part.whenRunning_image (s.part.waitExpiry_image i)⟩
  | holdoffExpiry i => exact ⟨_, rfl, Part.whenRunning_image (s.part.holdoffExpiry_image i)⟩
  | boardFormationCompletion => exact ⟨_, rfl, Part.whenRunning_image s.part.boardFormed_image⟩
  | ribbonFormationCompletion => exact ⟨_, rfl, Part.whenRunning_image s.part.ribbonFormed_image⟩
  | terminalFormationCompletion => exact ⟨_, rfl, Part.whenRunning_image s.part.terminalFormed_image⟩
  | secondTimerExpiry => exact ⟨_, rfl, Part.whenRunning_image s.part.secondExpiry_image⟩
  | panelWriteCompletion => exact ⟨_, rfl, s.part.panelWriteComplete_image⟩
  | flashTimerExpiry k => exact ⟨_, rfl, Part.whenRunning_image (s.part.flashExpiry_image k)⟩
  | advanceExpiry ready => exact ⟨_, rfl, s.part.advanceExpiry_image ready⟩
  | outputRunCompletion k => exact ⟨_, rfl, s.part.runComplete_image k⟩
  | highlightExpiry k row => exact ⟨_, rfl, Part.whenRunning_image (s.part.highlightExpiry_image k row)⟩
  | keyCharacter k b fault => exact ⟨_, rfl, hkey k b fault⟩
  | backspace k => exact ⟨_, rfl, hkey k backspaceCode false⟩
  | selectPage k | selectWatch k | addToWatch k | removeFromWatch k | showDetail k | unknownCommand k =>
    exact ⟨_, rfl, hkey k returnCode false⟩
  | enterSale | enterQuote | enterState | enterNotice | hold | release | readRecord | setClock | clearStatus
  | abortClear | repaint | blank | warmRestart => exact ⟨_, rfl, s.part.commandWrite_image _⟩
  | unknownCommandCode code => exact ⟨_, rfl, s.part.commandWrite_image _⟩
  | dataWrite v => exact ⟨_, rfl, s.part.dataWrite_image v⟩
  | dataRead | flagsRead | maskWrite v | ignoredRegisterWrite v => exact ⟨_, rfl, rfl⟩

/-- Settles O11: every command but a full reset leaves the configuration and the lock. -/
theorem lockKeepsConfiguration : Obligations.LockKeepsConfiguration := by
  intro c s hreset hlocked
  obtain ⟨t, ht, himage⟩ := exec_image (.inl hlocked) c hreset
  obtain ⟨hconfigured, hloader⟩ := Part.image_iff.mp himage
  exact ⟨t, ht, by rw [hloader, hlocked], hconfigured⟩

end Sys2Proof.Machine
end

section
/-! FULL_RESET, the balance of the image and CONFIG FAULT (R77, R116, R175, R177). -/

namespace Sys2Proof.Machine

/-! ### Full reset (R175, R77) -/

section
variable {l : Line}

/-- R77: no transmission on the line at a reset will be judged. -/
theorem Line.senseOff_ne_judged (l : Line) : l.senseOff ≠ .busy true := by
  unfold Line.senseOff
  split
  · exact LineSense.noConfusion
  · split <;> simp

theorem Line.senseOff_of_busy {b : Bool} (hd : l.driverEnabled = false) (h : l.sense = .busy b) :
    l.senseOff = .busy false := by
  simp [Line.senseOff, hd, h]

theorem Line.senseOff_of_quiet (h : l.sense = .quiet ∨ l.driverEnabled = true) : l.senseOff = .quiet := by
  rcases h with h | h <;> simp [Line.senseOff, h]

end

/-- Settles O13: every block at its value at reset, but for the panels and the line's sense. -/
theorem fullResetRestarts : Obligations.FullResetRestarts := by
  intro s
  refine ⟨_, rfl, rfl, rfl, s.part.line.senseOff_ne_judged, rfl, ?_, Line.senseOff_of_quiet, rfl⟩
  exact fun b hb hd => Line.senseOff_of_busy hd hb

/-! ### Load completion (R175, R177) -/

section
variable {p : Part}

/-- R175: with no item left to read the read stands at the end of the items. -/
theorem Loader.current_of_read {l : Loader} (hcounts : l.counts = ⟨0, 0, 0, 0, 0, 0⟩) (hitems : l.phase = .items) :
    l.current = none := by
  simp [Loader.current, hitems, hcounts]

theorem Part.loadCompletion_of_read {balance : Word16} (hitems : p.loader.phase = .items)
    (hcounts : p.loader.counts = ⟨0, 0, 0, 0, 0, 0⟩) :
    p.loadCompletion balance = if p.loader.finalSum balance = 0 then p.lock else p.configFault :=
  if_pos ⟨hitems, Loader.current_of_read hcounts hitems⟩

theorem Part.configFault_terminal (p : Part) (k : TerminalId) : p.configFault.terminal k = .faulted :=
  get_replicate_terminal .faulted k

end

/-- Settles O15: the bad sum is a fault, which leaves the flags and the panels. -/
theorem badSumFaults : Obligations.BadSumFaults := by
  intro s balance hitems hcounts hsum
  have hfault : s.part.loadCompletion balance = s.part.configFault :=
    (Part.loadCompletion_of_read hitems hcounts).trans (if_neg hsum)
  refine ⟨_, next_onPart hfault, ?_⟩
  rw [State.withPart_part]
  refine ⟨rfl, rfl, rfl, rfl, rfl, rfl, rfl, rfl, rfl, rfl, rfl, rfl, rfl, rfl, rfl, rfl, fun k => ?_⟩
  rw [Part.configFault_terminal]
  exact ⟨rfl, rfl⟩

/-! ### CONFIG FAULT until the next reset (R162, R177) -/

/-- What stands in CONFIG FAULT beside the configuration and the state of the load. -/
structure FaultView where
  port : PortState
  records : List Record
  recalls : Recall
  clock : Clock
  queue : List QueuedFrame
  current : Option Sending
  urgent : List Entry
  routine : List Entry

def Part.faultView (p : Part) : FaultView :=
  { port := p.console.port, records := p.records, recalls := p.recalls, clock := p.clock, queue := p.line.queue
    current := p.line.current, urgent := p.ribbon.urgent, routine := p.ribbon.routine }

section
variable {p : Part}

/-- R77, R103, R177: a block that is off takes no event. -/
theorem Part.whenRunning_of_fault (h : p.loader.phase = .fault) (f : Part → Part) : p.whenRunning f = p := by
  simp [Part.whenRunning, Part.running, h]

/-- R64, R77: the line's sense is followed, and no transmission is judged. -/
theorem Part.endOfTransmission_faultView (h : p.loader.phase = .fault) (bytes : List Byte) :
    (p.endOfTransmission bytes).faultView = p.faultView := by
  have hrun : p.running = false := by simp [Part.running, h]
  unfold Part.endOfTransmission
  split
  · rfl
  · simp only [hrun, Bool.false_eq_true, false_and, if_false]
    rfl

theorem Part.lineBusy_faultView (p : Part) (judged : Bool) :
    (p.onLine (Line.becomeBusy judged)).faultView = p.faultView := by
  unfold Part.onLine Line.becomeBusy
  split <;> rfl

/-- R177: the fault blank goes on. -/
theorem Part.panelWriteComplete_faultView (p : Part) : p.panelWriteComplete.faultView = p.faultView := by
  unfold Part.panelWriteComplete
  split
  · rfl
  · rfl
  · obtain ⟨f, h⟩ := ({ p with board := p.board.writeComplete } : Part).boardRequest_spec
    rw [h]; rfl

/-- R177: the 250 ms timer sends blanks, and no entry of the backlog. -/
theorem Part.advanceExpiry_faultView (h : p.loader.phase = .fault) (ready : Bool) :
    (p.advanceExpiry ready).faultView = p.faultView := by
  unfold Part.advanceExpiry
  split
  · rfl
  · rw [h]; rfl

/-- R177: the run of ESC C completes. -/
theorem Part.runComplete_faultView (p : Part) (k : TerminalId) : (p.runComplete k).faultView = p.faultView := by
  unfold Part.runComplete
  split
  · obtain ⟨f, x, h, -⟩ := (p.setTerminal k (p.terminal k).runComplete).termKick_spec k
    rw [h]; rfl
  · rfl

/-- R170 to R172: reads and the mask leave the status state. -/
theorem Part.onConsole_faultView {f : Console → Console} (hf : ∀ c, (f c).port = c.port) :
    (p.onConsole f).faultView = p.faultView := by
  simp [Part.faultView, hf]

end

/-- In CONFIG FAULT every command but a full reset leaves what stands there. -/
theorem exec_faultView {s : State} (h : s.part.loader.phase = .fault) (hport : s.part.console.port = .configFault)
    (c : Instr) (hreset : c ≠ .fullReset) :
    ∃ t, exec c s = .next t ∧ t.part.faultView = s.part.faultView := by
  have hloaded : s.part.Loaded := .inr h
  have hserving : ¬ s.part.console.port.Serving := fun hs => hs.2 hport
  have hoff (f : Part → Part) : (s.part.whenRunning f).faultView = s.part.faultView :=
    congrArg Part.faultView (Part.whenRunning_of_fault h f)
  have hcommand (x : ConsoleCommand) : (s.part.commandWrite x).faultView = s.part.faultView :=
    congrArg Part.faultView (Part.commandWrite_of_not_serving x hserving)
  cases c with
  | fullReset => exact absurd rfl hreset
  | configItemRead bytes => exact ⟨_, rfl, congrArg Part.faultView (hloaded.itemRead bytes)⟩
  | loadCompletion balance => exact ⟨_, rfl, congrArg Part.faultView (hloaded.loadCompletion balance)⟩
  | endOfTransmission bytes => exact ⟨_, rfl, Part.endOfTransmission_faultView h bytes⟩
  | lineBusy => exact ⟨_, rfl, s.part.lineBusy_faultView _⟩
  | panelWriteCompletion => exact ⟨_, rfl, s.part.panelWriteComplete_faultView⟩
  | advanceExpiry ready => exact ⟨_, rfl, Part.advanceExpiry_faultView h ready⟩
  | outputRunCompletion k => exact ⟨_, rfl, s.part.runComplete_faultView k⟩
  | interframeGapExpiry | backoffExpiry | sendComplete | clash | paceExpiry | waitExpiry i | holdoffExpiry i
  | boardFormationCompletion | ribbonFormationCompletion | terminalFormationCompletion | secondTimerExpiry
  | flashTimerExpiry k | highlightExpiry k row | keyCharacter k b fault | backspace k | selectPage k | selectWatch k
  | addToWatch k | removeFromWatch k | showDetail k | unknownCommand k =>
    exact ⟨_, rfl, hoff _⟩
  | enterSale | enterQuote | enterState | enterNotice | hold | release | readRecord | setClock | clearStatus
  | abortClear | repaint | blank | warmRestart | unknownCommandCode code =>
    exact ⟨_, rfl, hcommand _⟩
  | dataWrite v => exact ⟨_, rfl, congrArg Part.faultView (Part.dataWrite_of_not_serving v hserving)⟩
  | dataRead => exact ⟨_, rfl, Part.onConsole_faultView Console.dataRead_port⟩
  | flagsRead => exact ⟨_, rfl, Part.onConsole_faultView Console.flagsRead_port⟩
  | maskWrite v => exact ⟨_, rfl, Part.onConsole_faultView (Console.maskWrite_port v)⟩
  | ignoredRegisterWrite v => exact ⟨_, rfl, rfl⟩

/-- Settles O12: after the load the configuration stands, and in CONFIG FAULT the blocks that are off stand too. -/
theorem faultHoldsUntilReset : Obligations.FaultHoldsUntilReset := by
  intro c s hreset hfault hport
  obtain ⟨t, ht, himage⟩ := exec_image (.inr hfault) c hreset
  obtain ⟨hconfigured, hloader⟩ := Part.image_iff.mp himage
  obtain ⟨t', ht', hview⟩ := exec_faultView hfault hport c hreset
  obtain rfl : t' = t := Host.Outcome.next.inj (ht'.symm.trans ht)
  obtain ⟨hp, hrest⟩ := FaultView.mk.inj hview
  exact ⟨t', ht', by rw [hloader, hfault], hp.trans hport, hconfigured, hrest⟩

end Sys2Proof.Machine
end

section
/-! The configuration lock: the starting values, the repaint begun and the terminals' first pages (R116, R148, R159,
R178). -/

namespace Sys2Proof.Machine

/-! ### The repaint at the lock (R116) -/

section
variable {b : Board}

/-- R104: the first repaint starts at position 0, when there is one. -/
theorem Board.atLock_cursor (b : Board) : b.atLock.cursor = if b.positions = [] then none else some 0 := by
  have hlength : (b.positions.map fun q => { q with flash := false }).length = 0 ↔ b.positions = [] := by
    rw [List.length_map, List.length_eq_zero_iff]
  exact if_congr hlength rfl rfl

theorem Board.zone_atLock (b : Board) (z : ZoneId) :
    b.atLock.zone z = { b.zone z with held := false, refreshOwed := false } :=
  get_zones_map (fun z => { z with held := false, refreshOwed := false }) b.zones z

/-- R105: no zone is HELD at the lock, so no position is passed over. -/
theorem Board.passHeld_atLock (h : b.positions ≠ []) :
    passHeld (b.atLock.positions.drop 0) 0 b.atLock.zones = (b.atLock.zones, some 0) := by
  obtain ⟨q, ps, hps⟩ := List.exists_cons_of_ne_nil h
  have hpositions : b.atLock.positions = b.positions.map fun q => { q with flash := false } := rfl
  have hheld : (b.atLock.zones.get q.zone).held = false := congrArg Zone.held (b.zone_atLock q.zone)
  rw [hpositions, hps, List.map_cons]
  exact if_neg (ne_true_of_eq_false hheld)

theorem Board.atLock_choose (h : b.positions ≠ []) :
    b.atLock.choose = { b.atLock with cursor := some 1, nextSource := .queue, op := .forming 0 .cursor } := by
  have hcursor : b.atLock.cursor = some 0 := b.atLock_cursor.trans (if_neg h)
  have hdirty : b.atLock.dirty = [] := rfl
  have hroom : ¬ b.atLock.positions.length ≤ 0 := by
    simpa [Board.atLock] using h
  have hwork : b.atLock.chooseWork = b.atLock.takeAtCursor 0 := by
    simp only [Board.chooseWork, hcursor]
    rw [if_neg hroom, if_neg fun hq => hq.2 hdirty]
  rw [Board.choose_of_no_blank rfl, hwork, Board.takeAtCursor, Board.passHeld_atLock h]

theorem Board.atLock_choose_of_empty (h : b.positions = []) : b.atLock.choose = b.atLock := by
  have hcursor : b.atLock.cursor = none := b.atLock_cursor.trans (if_pos h)
  rw [Board.choose_of_no_blank rfl, Board.chooseWork, hcursor]
  rfl

/-- R116: what the choice of the first position leaves as it is at the lock. -/
theorem Board.atLock_choose_spec (b : Board) :
    ∃ cur n o, b.atLock.choose = { b.atLock with cursor := cur, nextSource := n, op := o } := by
  by_cases h : b.positions = []
  · exact ⟨_, _, _, Board.atLock_choose_of_empty h⟩
  · exact ⟨_, _, _, Board.atLock_choose h⟩

end

/-! ### The terminals' first pages (R148, R159) -/

/-- A terminal whose heading of page 1 is on its line. -/
structure Terminal.Heading (t : Terminal) : Prop where
  state : t.state = .drawing
  selection : t.selection = .page 1
  watch : t.watch = []
  message : t.message = none
  step : t.step = some (.run .heading (headingRun (.page 1)))

theorem Terminal.atLock_choose (rows : List Row) : (Terminal.atLock.choose rows).Heading :=
  ⟨rfl, rfl, rfl, rfl, rfl⟩

/-- R146: a terminal whose line is in use chooses nothing. -/
theorem Terminal.Heading.choose {t : Terminal} (h : t.Heading) (rows : List Row) : (t.choose rows).Heading := by
  rw [Terminal.choose, if_pos (.inr (by rw [h.step]; rfl))]
  exact h

theorem Terminal.choose_of_unused {t : Terminal} (h : t.state = .unused) (rows : List Row) : t.choose rows = t :=
  if_pos (.inl h)

section
variable {p : Part} {k : TerminalId}

theorem Part.termKick_terminal_of_ne {j : TerminalId} (h : k ≠ j) (p : Part) :
    (p.termKick j).terminal k = p.terminal k := by
  obtain ⟨f, x, hkick, -⟩ := p.termKick_spec j
  rw [hkick]
  exact p.terminal_setTerminal_of_ne h x

/-- R146: a kick of a free terminal is its choice. -/
theorem Part.termKick_terminal_of_free (h : (p.terminal k).step = none) :
    (p.termKick k).terminal k = (p.terminal k).choose (p.freshRows (p.terminal k)) := by
  have hself (x : Terminal) : (p.setTerminal k x).terminal k = x := p.terminal_setTerminal_self k x
  simp only [Part.termKick, h, Option.isSome_none, Bool.false_eq_true, if_false]
  split
  · rename_i job _
    obtain ⟨f, hrequest⟩ := Part.request_terminal_spec k job
      (p.setTerminal k ((p.terminal k).choose (p.freshRows (p.terminal k))))
    rw [hrequest]
    exact hself _
  · exact hself _

theorem mem_allTerminals (k : TerminalId) : k ∈ allTerminals := by
  revert k
  decide

/-- R148: in a round of kicks that comes to it, a terminal as it stands at the lock begins its heading. -/
theorem Part.foldl_termKick_heading {ks : List TerminalId} (hk : k ∈ ks) (h : p.terminal k = Terminal.atLock) :
    ((ks.foldl (fun p t => p.termKick t) p).terminal k).Heading := by
  induction ks generalizing p with
  | nil => exact absurd hk List.not_mem_nil
  | cons j ks ih =>
    rw [List.foldl_cons]
    by_cases hkj : k = j
    · subst hkj
      obtain ⟨f, ts, hfold, hkeep⟩ := Part.foldl_termKick_spec ks (p.termKick k)
      rw [hfold]
      refine hkeep k Terminal.Heading ?_ fun x rows hx => hx.choose rows
      rw [Part.termKick_terminal_of_free (by rw [h]; rfl), h]
      exact Terminal.atLock_choose _
    · exact ih ((List.mem_cons.mp hk).resolve_left hkj) ((p.termKick_terminal_of_ne hkj).trans h)

theorem Part.startingValues_terminal (p : Part) (k : TerminalId) :
    p.startingValues.terminal k = if p.settings.inUse k then Terminal.atLock else Terminal.reset :=
  Vector.getElem_ofFn k.isLt

/-! ### The lock (R178) -/

/-- R97: a kick of an IDLE Board Writer is its choice, with a request at the Formatter. -/
theorem Part.boardKick_of_idle (h : p.board.op = .idle) :
    ∃ f, p.boardKick = { p with board := p.board.choose, formatter := f } := by
  rw [Part.boardKick, if_pos h]
  exact ({ p with board := p.board.choose } : Part).boardRequest_spec

/-- R178: the lock is the starting values with the Board Writer's choice and the terminals' choices; without a session
day no recall is queued (R47). -/
theorem Part.lock_spec (p : Part) : ∃ f ts,
    p.lock = { p.startingValues with board := p.board.atLock.choose, formatter := f, terminals := ts } ∧
    ∀ k, (p.settings.inUse k = true → (ts.get k).Heading) ∧
      (p.settings.inUse k = false → (ts.get k).state = .unused) := by
  obtain ⟨f, hboard⟩ := p.startingValues.boardKick_of_idle rfl
  obtain ⟨g, ts, hterms, hkeep⟩ := p.startingValues.boardKick.termsKick_spec
  have hterminal (k : TerminalId) : p.startingValues.boardKick.terminal k = p.startingValues.terminal k := by
    rw [hboard]; rfl
  have hheading (k : TerminalId) (h : p.startingValues.boardKick.terminal k = Terminal.atLock) :
      (ts.get k).Heading := by
    have hround := Part.foldl_termKick_heading (mem_allTerminals k) h
    rw [← Part.termsKick, hterms] at hround
    exact hround
  refine ⟨g, ts, ?_, fun k => ⟨fun huse => hheading k ?_, fun huse => ?_⟩⟩
  · rw [Part.lock, Part.settle, Part.recallTest_of_quiet, hterms, hboard]
    · rfl
    · rw [hterms, hboard]
      exact .inl rfl
  · rw [hterminal, p.startingValues_terminal, if_pos huse]
  · refine hkeep k (fun x => x.state = .unused) ?_ fun x rows hx => by rw [Terminal.choose_of_unused hx, hx]
    rw [hterminal, p.startingValues_terminal, if_neg (ne_true_of_eq_false huse)]
    rfl

end

/-- Settles O14: the starting values of each block, and the choices made in the same event. -/
theorem lockStartsPart : Obligations.LockStartsPart := by
  intro s balance hitems hcounts hsum
  have hlock : s.part.loadCompletion balance = s.part.lock :=
    (Part.loadCompletion_of_read hitems hcounts).trans (if_pos hsum)
  obtain ⟨f, ts, hlocked, hterms⟩ := s.part.lock_spec
  obtain ⟨cur, n, o, hchoose⟩ := s.part.board.atLock_choose_spec
  refine ⟨_, next_onPart (hlock.trans hlocked), ?_⟩
  rw [State.withPart_part]
  refine ⟨rfl, rfl, rfl, rfl, rfl, List.map_map, rfl, rfl, rfl, rfl, rfl, rfl, ?_, ?_, ?_, ?_, ?_, fun z => ?_,
    fun h => ?_, fun h => ?_, fun k => ?_⟩
  · rw [hchoose]; rfl
  · rw [hchoose]; rfl
  · rw [hchoose]; rfl
  · rw [hchoose]; rfl
  · rw [hchoose]; rfl
  · rw [hchoose]
    exact s.part.board.zone_atLock z
  · rw [Board.atLock_choose h]
    exact ⟨rfl, rfl⟩
  · rw [Board.atLock_choose_of_empty h]
    exact ⟨rfl, s.part.board.atLock_cursor.trans (if_pos h)⟩
  · obtain ⟨huse, hunused⟩ := hterms k
    refine ⟨fun h => ?_, hunused⟩
    obtain ⟨hstate, hselection, hwatch, hmessage, hstep⟩ := huse h
    exact ⟨hstate, hselection, hwatch, hmessage, hstep⟩

end Sys2Proof.Machine
end

section
/-! SUPPORT. One item of the image brought whole (R175, R176): what the read of an item comes to, whatever its
section. -/

namespace Sys2Proof.Machine

/-- No byte is past the item. -/
theorem Loader.keepRest_nil (l : Loader) : l.keepRest [] = { l with buffer := [] } := by
  unfold Loader.keepRest
  split <;> rfl

section
variable {p : Part} {sec : ImageSection} {bytes : List Byte} {take : Part → Part}

/-- An item that its bytes complete is taken with its bytes counted. -/
theorem Part.itemRead_of_got (hdue : p.loader.current = some sec) (hbuf : p.loader.buffer = [])
    (hread : readItem sec bytes = .got take []) :
    p.itemRead bytes = (take (p.onLoader (Loader.consume sec bytes))).onLoader fun l => { l with buffer := [] } := by
  have hrest : Loader.keepRest [] = fun l => { l with buffer := [] } := funext Loader.keepRest_nil
  simp [Part.itemRead, hdue, hbuf, hread, hrest]

/-- R175: a fault found stops the read. -/
theorem Part.itemRead_of_bad (hdue : p.loader.current = some sec) (hbuf : p.loader.buffer = [])
    (hread : readItem sec bytes = .bad) : p.itemRead bytes = p.configFault := by
  simp [Part.itemRead, hdue, hbuf, hread]

/-- What an item read leaves beside its own table, in the order in which it is done. -/
theorem Part.afterItem_eq (p : Part) (sec : ImageSection) (bytes : List Byte) (warn : Bool) :
    p.afterItem sec bytes warn =
      ((p.onLoader (Loader.consume sec bytes)).warnIf warn).onLoader fun l => { l with buffer := [] } := by
  cases warn <;> rfl

/-- R176: an item dropped leaves its table as it was. -/
theorem Part.itemRead_of_dropped (hdue : p.loader.current = some sec) (hbuf : p.loader.buffer = [])
    (hread : readItem sec bytes = .got take [])
    (hdrop : take (p.onLoader (Loader.consume sec bytes)) = (p.onLoader (Loader.consume sec bytes)).warnIf true) :
    p.itemRead bytes = p.afterItem sec bytes true := by
  rw [Part.itemRead_of_got hdue hbuf hread, hdrop, Part.afterItem_eq]

end

/-! ### Items that are due (R175) -/

section
variable {l : Loader}

theorem Loader.current_layouts (hitems : l.phase = .items) (hi : l.counts.instruments = 0)
    (hl : 0 < l.counts.layouts) : l.current = some .layouts := by
  simp [Loader.current, hitems, hi, hl]

theorem Loader.current_zones (hitems : l.phase = .items) (hi : l.counts.instruments = 0) (hl : l.counts.layouts = 0)
    (hz : 0 < l.counts.zones) : l.current = some .zones := by
  simp [Loader.current, hitems, hi, hl, hz]

theorem Loader.current_positions (hitems : l.phase = .items) (hi : l.counts.instruments = 0)
    (hl : l.counts.layouts = 0) (hz : l.counts.zones = 0) (hp : 0 < l.counts.positions) :
    l.current = some .positions := by
  simp [Loader.current, hitems, hi, hl, hz, hp]

theorem Loader.current_pages (hitems : l.phase = .items) (hi : l.counts.instruments = 0) (hl : l.counts.layouts = 0)
    (hz : l.counts.zones = 0) (hp : l.counts.positions = 0) (hg : 0 < l.counts.pages) : l.current = some .pages := by
  simp [Loader.current, hitems, hi, hl, hz, hp, hg]

theorem Loader.current_timetable (hitems : l.phase = .items) (hi : l.counts.instruments = 0)
    (hl : l.counts.layouts = 0) (hz : l.counts.zones = 0) (hp : l.counts.positions = 0) (hg : l.counts.pages = 0)
    (ht : 0 < l.counts.timetable) : l.current = some .timetable := by
  simp [Loader.current, hitems, hi, hl, hz, hp, hg, ht]

end

end Sys2Proof.Machine
end

section
/-! The header and the layouts of the image (R94, R175, R176, Table 10-5). -/

namespace Sys2Proof.Machine

/-! ### The header (R175, R176) -/

/-- The values of the 18 bytes of a header: the two counts of two bytes are numbers. -/
structure HeaderItem where
  station : Byte
  switches : Byte
  terminals : Byte
  base : Byte
  period : Byte
  late : Byte
  flash : Byte
  highlight : Byte
  pace : Byte
  filter : Byte
  instruments : Nat
  layouts : Byte
  zones : Byte
  positions : Nat
  pages : Byte
  timetable : Byte

namespace HeaderItem

/-- Table 10-5: the bytes in their order. -/
def bytes (x : HeaderItem) : List Byte :=
  [x.station, x.switches, x.terminals, x.base, x.period, x.late, x.flash, x.highlight, x.pace, x.filter] ++
    toBytes 2 x.instruments ++ [x.layouts, x.zones] ++ toBytes 2 x.positions ++ [x.pages, x.timetable]

/-- The items that each section is to hold. -/
def counts (x : HeaderItem) : ItemCounts :=
  ⟨x.instruments, x.layouts.toNat, x.zones.toNat, x.positions, x.pages.toNat, x.timetable.toNat⟩

/-- R176: each setting at the limit nearest to its value. -/
def settings (x : HeaderItem) : Settings :=
  { station := x.station.toNat, transmitEnabled := x.switches.getLsbD 0, answerEnabled := x.switches.getLsbD 1
    clockSource := x.switches.getLsbD 2, blankAtClose := x.switches.getLsbD 3, terminalsInUse := x.terminals
    baseSpeed := max 4 (min x.base.toNat 16), samplePeriod := max 1 (min x.period.toNat 64)
    lateThreshold := if x.late = 0 then 3 else min x.late.toNat 30, flashHold := max 1 (min x.flash.toNat 30)
    highlightHold := max 1 (min x.highlight.toNat 30)
    recallPace := if x.pace = 0 then 40 else max 10 (min x.pace.toNat 250), heldOnly := x.filter == 1 }

/-- R176: whether a value is out of its range. -/
def replaced (x : HeaderItem) : Bool :=
  decide (x.base.toNat < 4 ∨ 16 < x.base.toNat ∨ x.period = 0 ∨ 64 < x.period.toNat ∨ 30 < x.late.toNat ∨ x.flash = 0 ∨
    30 < x.flash.toNat ∨ x.highlight = 0 ∨ 30 < x.highlight.toNat ∨ (1 ≤ x.pace.toNat ∧ x.pace.toNat < 10) ∨
    250 < x.pace.toNat ∨ 1 < x.filter.toNat)

/-- R175: whether the station number and the counts are within their limits. -/
def sound (x : HeaderItem) : Bool :=
  isStation x.settings.station && x.counts.withinCapacity

theorem sound_iff (x : HeaderItem) : x.sound = true ↔
    (1 ≤ x.station.toNat ∧ x.station.toNat ≤ 62) ∧ x.instruments ≤ 1024 ∧ x.layouts.toNat ≤ 8 ∧ x.zones.toNat ≤ 16 ∧
      x.positions ≤ 256 ∧ x.pages.toNat ≤ 32 ∧ x.timetable.toNat ≤ 16 := by
  simp only [sound, Bool.and_eq_true, isStation_iff, ItemCounts.withinCapacity, decide_eq_true_eq, and_assoc]
  rfl

end HeaderItem

theorem clampTo_eq {lo hi : Nat} (h : lo ≤ hi) (n : Nat) : clampTo lo hi n = max lo (min n hi) := by
  unfold clampTo
  split
  · omega
  · split <;> omega

/-- A value is replaced when it lies outside its limits. -/
theorem clampTo_ne {lo hi : Nat} (h : lo ≤ hi) (n : Nat) : (clampTo lo hi n != n) = decide (n < lo ∨ hi < n) := by
  rw [clampTo_eq h, Bool.eq_iff_iff, bne_iff_ne, decide_eq_true_iff]
  omega

/-- R176: of a value that may be left out as 0, one that is given is kept between its limits. -/
theorem clampTo_given {lo hi given : Nat} (hlo : lo ≤ given) (hhi : given ≤ hi) (n : Nat) :
    clampTo lo hi (if n = 0 then given else n) = if n = 0 then given else max lo (min n hi) := by
  rw [clampTo_eq (hlo.trans hhi)]
  split <;> omega

theorem clampTo_given_ne {lo hi given : Nat} (hlo : lo ≤ given) (hhi : given ≤ hi) (n : Nat) :
    (clampTo lo hi (if n = 0 then given else n) != if n = 0 then given else n) =
      decide (n ≠ 0 ∧ (n < lo ∨ hi < n)) := by
  rw [clampTo_ne (hlo.trans hhi), decide_eq_decide]
  split <;> omega

theorem byte_eq_zero_iff (b : Byte) : b = 0 ↔ b.toNat = 0 :=
  BitVec.toNat_eq

theorem ofBytes_single (b : Byte) : ofBytes [b] = b.toNat := by
  simp [ofBytes]

section
variable (x : HeaderItem)

theorem readCounts_header (hi : x.instruments < 65536) (hp : x.positions < 65536) :
    readCounts x.bytes = x.counts := by
  have hni := ofBytes_toBytes 2 x.instruments hi
  have hnp := ofBytes_toBytes 2 x.positions hp
  simpa [HeaderItem.bytes, HeaderItem.counts, readCounts, field, toBytes, ofBytes] using And.intro hni hnp

theorem readSettings_header : readSettings x.bytes = (x.settings, x.replaced) := by
  have hlate (n : Nat) : (if n = 0 then 3 else max 1 (min n 30)) = if n = 0 then 3 else min n 30 := by
    split <;> omega
  have hfilter : (x.filter.toNat == 1) = (x.filter == 1) := by
    rw [Bool.eq_iff_iff, beq_iff_eq, beq_iff_eq, ← BitVec.toNat_inj]
    rfl
  simp only [readSettings, HeaderItem.bytes, field, byteAt, List.cons_append, List.nil_append, List.drop_succ_cons,
    List.drop_zero, List.take_succ_cons, List.take_zero, ofBytes_single, List.getD_cons_succ, List.getD_cons_zero]
  refine Prod.ext ?_ ?_
  · simp only [clampTo_given (given := 3), clampTo_given (given := 40), Nat.reduceLeDiff, hlate]
    simp only [clampTo_eq, Nat.reduceLeDiff, hfilter, HeaderItem.settings, byte_eq_zero_iff]
  · simp only [clampTo_given_ne (given := 3), clampTo_given_ne (given := 40), Nat.reduceLeDiff]
    rw [Bool.eq_iff_iff]
    simp only [clampTo_ne, Nat.reduceLeDiff, Bool.or_eq_true, decide_eq_true_eq, HeaderItem.replaced, byte_eq_zero_iff]
    omega

/-- R175: the header is read, or is a fault. -/
theorem readItem_header (hi : x.instruments < 65536) (hp : x.positions < 65536) :
    readItem .header x.bytes =
      if x.sound then .got (Part.takeHeader x.settings x.replaced x.counts) [] else .bad := by
  have hfixed : readFixed 18 (fun b => (readSettings b, readCounts b)) x.bytes =
      .got ((x.settings, x.replaced), x.counts) [] := by
    have hlength : x.bytes.length = 18 := by simp [HeaderItem.bytes]
    have htake : x.bytes.take 18 = x.bytes := List.take_of_length_le hlength.le
    have hdrop : x.bytes.drop 18 = [] := List.drop_of_length_le hlength.le
    rw [readFixed, if_neg (by omega), htake, hdrop, readSettings_header, readCounts_header x hi hp]
  have hread : readHeader x.bytes = if x.sound then .got (x.settings, x.replaced, x.counts) [] else .bad := by
    simp only [readHeader, hfixed]
    rfl
  cases h : x.sound <;> simp [readItem, hread, h]

variable {p : Part}

theorem Part.itemRead_header (hheader : p.loader.phase = .header) (hbuf : p.loader.buffer = [])
    (hi : x.instruments < 65536) (hp : x.positions < 65536) :
    (x.sound = false → p.itemRead x.bytes = p.configFault) ∧
    (x.sound = true → p.itemRead x.bytes = { p.afterItem .header x.bytes x.replaced with
      loader := { (p.afterItem .header x.bytes x.replaced).loader with phase := .items, counts := x.counts }
      settings := x.settings }) := by
  have hdue : p.loader.current = some .header := by rw [Loader.current, hheader]
  have hread := readItem_header x hi hp
  refine ⟨fun h => ?_, fun h => ?_⟩
  · exact Part.itemRead_of_bad hdue hbuf (hread.trans (if_neg (ne_true_of_eq_false h)))
  · rw [Part.itemRead_of_got hdue hbuf (hread.trans (if_pos h))]
    cases x.replaced <;> rfl

end

/-! ### Layouts (R94, R175, R176) -/

/-- R94, R176: a field that a layout may hold. -/
def GoodField (e : Byte × Byte) : Prop :=
  (1 ≤ e.1.toNat ∧ e.1.toNat ≤ 10) ∧ 1 ≤ e.2.toNat ∧ e.2.toNat ≤ 8

/-- The field that a kind byte and a width byte give. -/
def fieldOf (e : Byte × Byte) : Option (FieldKind × Nat) :=
  (FieldKind.ofCode e.1.toNat).map fun k => (k, if k = .mark ∨ k = .arrow then 1 else e.2.toNat)

theorem FieldKind.ofCode_eq_none {n : Nat} (h : n = 0 ∨ 10 < n) : FieldKind.ofCode n = none := by
  rcases h with rfl | h
  · rfl
  · obtain ⟨k, rfl⟩ := Nat.exists_eq_add_of_le' h
    rfl

theorem FieldKind.ofCode_isSome (n : Nat) : (FieldKind.ofCode n).isSome = true ↔ 1 ≤ n ∧ n ≤ 10 := by
  constructor
  · intro h
    by_contra hout
    rw [FieldKind.ofCode_eq_none (by omega)] at h
    exact Bool.false_ne_true h
  · rintro ⟨hlo, hhi⟩
    interval_cases n <;> rfl

section
variable {e : Byte × Byte} {items : List (Byte × Byte)}

theorem fieldOf_of_good (h : GoodField e) : ∃ f, fieldOf e = some f ∧ readLayoutField e.1.toNat e.2.toNat = some f := by
  obtain ⟨hkind, hwidth⟩ := h
  obtain ⟨k, hk⟩ := Option.isSome_iff_exists.mp ((FieldKind.ofCode_isSome _).mpr hkind)
  exact ⟨_, by rw [fieldOf, hk]; rfl, by rw [readLayoutField, if_pos hwidth, hk]; rfl⟩

theorem readLayoutField_of_bad (h : ¬ GoodField e) : readLayoutField e.1.toNat e.2.toNat = none := by
  unfold readLayoutField
  split
  · rename_i hwidth
    have hkind : FieldKind.ofCode e.1.toNat = none :=
      Option.not_isSome_iff_eq_none.mp fun hk => h ⟨(FieldKind.ofCode_isSome _).mp hk, hwidth⟩
    rw [hkind]
    rfl
  · rfl

/-- The kind and width bytes of a field layout. -/
def fieldBytes (items : List (Byte × Byte)) : List Byte :=
  items.flatMap fun e => [e.1, e.2]

theorem readLayoutFields_of_good (h : ∀ e ∈ items, GoodField e) :
    readLayoutFields (fieldBytes items) = some (items.filterMap fieldOf) := by
  induction items with
  | nil => rfl
  | cons e items ih =>
    obtain ⟨f, hf, hread⟩ := fieldOf_of_good (h e List.mem_cons_self)
    have hrest := ih fun x hx => h x (List.mem_cons_of_mem e hx)
    simp only [fieldBytes, List.flatMap_cons, List.cons_append, List.nil_append, readLayoutFields, hread] at hrest ⊢
    rw [hrest, List.filterMap_cons_some hf]

/-- R176: one bad kind or width drops the layout. -/
theorem readLayoutFields_of_bad (h : ¬ ∀ e ∈ items, GoodField e) : readLayoutFields (fieldBytes items) = none := by
  induction items with
  | nil => exact absurd (fun e he => absurd he List.not_mem_nil) h
  | cons e items ih =>
    simp only [fieldBytes, List.flatMap_cons, List.cons_append, List.nil_append, readLayoutFields]
    by_cases he : GoodField e
    · have hrest := ih fun hall => h fun x hx => (List.mem_cons.mp hx).elim (fun hxe => hxe ▸ he) (hall x)
      rw [fieldBytes] at hrest
      rw [hrest]
      cases readLayoutField e.1.toNat e.2.toNat <;> rfl
    · rw [readLayoutField_of_bad he]

end

/-- R175: a count byte that is no more than its limit reads back as itself. -/
theorem countByte_toNat {n limit : Nat} (h : n ≤ limit) (hlimit : limit < 256) : (BitVec.ofNat 8 n).toNat = n := by
  rw [BitVec.toNat_ofNat, Nat.mod_eq_of_lt (by omega)]

theorem fieldBytes_length (items : List (Byte × Byte)) : (fieldBytes items).length = 2 * items.length := by
  simp [fieldBytes, List.length_flatMap, Nat.mul_comm]

/-- The layout that the bytes of a field layout give, or none. -/
theorem readLayout_fields {items : List (Byte × Byte)} (h : items.length ≤ 6) :
    readLayout ([0, BitVec.ofNat 8 items.length] ++ fieldBytes items) =
      .got (if items = [] then none else (readLayoutFields (fieldBytes items)).map Layout.fields) [] := by
  have hcount := countByte_toNat h (by omega)
  have hzero : BitVec.ofNat 8 items.length = 0 ↔ items = [] := by
    rw [byte_eq_zero_iff, hcount, List.length_eq_zero_iff]
  have hlength := fieldBytes_length items
  have htake : (fieldBytes items).take (2 * items.length) = fieldBytes items := List.take_of_length_le hlength.le
  have hdrop : (fieldBytes items).drop (2 * items.length) = [] := List.drop_of_length_le hlength.le
  simp only [List.cons_append, List.nil_append, readLayout, if_true, hcount, hzero, htake, hdrop]
  rw [if_neg (by omega), if_neg (by omega)]

theorem readLayout_legend {text : List Byte} (h : text.length ≤ 48) :
    readLayout ([1, BitVec.ofNat 8 text.length] ++ text) =
      .got (if text = [] then none else some (.legend text)) [] := by
  have hcount := countByte_toNat h (by omega)
  have hzero : BitVec.ofNat 8 text.length = 0 ↔ text = [] := by
    rw [byte_eq_zero_iff, hcount, List.length_eq_zero_iff]
  have hkind : ¬ (1 : Byte) = 0 := by decide
  simp only [List.cons_append, List.nil_append, readLayout, hkind, if_false, if_true, hcount, hzero, List.take_length,
    List.drop_length]
  rw [if_neg (by omega), if_neg (by omega)]

theorem readLayout_of_manyFields {n : Byte} (h : 6 < n.toNat) : readLayout [0, n] = .bad := by
  simp [readLayout, h]

theorem readLayout_of_longLegend {n : Byte} (h : 48 < n.toNat) : readLayout [1, n] = .bad := by
  simp [readLayout, h]

theorem readLayout_of_badType {kind : Byte} (h : 1 < kind.toNat) : readLayout [kind] = .bad := by
  have hfields : kind ≠ 0 := by rintro rfl; simp at h
  have hlegend : kind ≠ 1 := by rintro rfl; simp at h
  rw [readLayout, if_neg hfields, if_neg hlegend]

section
variable {p : Part} {bytes : List Byte}

theorem Part.itemRead_layout {l : Option Layout} (hdue : p.loader.current = some .layouts) (hbuf : p.loader.buffer = [])
    (hread : readLayout bytes = .got l []) :
    p.itemRead bytes = { p.afterItem .layouts bytes l.isNone with
      board := { p.board with layouts := p.board.layouts ++ [l] } } := by
  have hitem : readItem .layouts bytes = .got (Part.takeLayout l) [] := by simp only [readItem, hread]
  rw [Part.itemRead_of_got hdue hbuf hitem]
  cases l <;> rfl

theorem Part.itemRead_badLayout (hdue : p.loader.current = some .layouts) (hbuf : p.loader.buffer = [])
    (hread : readLayout bytes = .bad) : p.itemRead bytes = p.configFault :=
  Part.itemRead_of_bad hdue hbuf (by simp only [readItem, hread])

end

/-- Settles O17: the header by the limits of its counts, each layout by its type, its count and its fields. -/
theorem headerAndLayoutsJudged : Obligations.HeaderAndLayoutsJudged := by
  refine ⟨?_, ?_⟩
  · intro s st fl terms base period late flash hi pace filter nl nz ng nt ni np hheader hbuf hni hnp
    set x : HeaderItem := ⟨st, fl, terms, base, period, late, flash, hi, pace, filter, ni, nl, nz, np, ng, nt⟩
    obtain ⟨hbad, hsound⟩ := Part.itemRead_header x hheader hbuf hni hnp
    exact ⟨fun h => next_onPart (hbad (Bool.eq_false_iff.mpr fun hx => h (x.sound_iff.mp hx))),
      fun h => next_onPart (hsound (x.sound_iff.mpr h))⟩
  · intro s hitems hi hl hbuf
    have hdue := Loader.current_layouts hitems hi hl
    refine ⟨fun items hlen => ?_,
      fun text hlen => next_onPart (Part.itemRead_layout hdue hbuf (readLayout_legend hlen)),
      fun n hn => next_onPart (Part.itemRead_badLayout hdue hbuf (readLayout_of_manyFields hn)),
      fun n hn => next_onPart (Part.itemRead_badLayout hdue hbuf (readLayout_of_longLegend hn)),
      fun kind hk => next_onPart (Part.itemRead_badLayout hdue hbuf (readLayout_of_badType hk))⟩
    refine next_onPart (Part.itemRead_layout hdue hbuf ((readLayout_fields hlen).trans ?_))
    congr 1
    by_cases hempty : items = []
    · rw [if_pos hempty, if_neg fun h => h.1 hempty]
    · rw [if_neg hempty]
      by_cases hgood : ∀ e ∈ items, GoodField e
      · rw [readLayoutFields_of_good hgood, if_pos ⟨hempty, hgood⟩]
        rfl
      · rw [readLayoutFields_of_bad hgood, if_neg fun h => hgood h.2]
        rfl

end Sys2Proof.Machine
end

section
/-! The zones, positions, pages and Timetable entries of the image (R85, R93, R95, R176, Table 10-5). -/

namespace Sys2Proof.Machine

/-! ### The items read -/

theorem readZone_bytes (n fl g : Byte) : readZone [n, fl, g] = .got ⟨n.toNat, fl.getLsbD 0, g.toNat⟩ [] := by
  simp [readZone, readFixed, field, ofBytes, byteAt]

theorem readPosition_bytes (sym : Symbol) (l z panel cell : Byte) :
    readPosition (sym.bytes ++ [l, z, panel, cell]) = .got ⟨sym, l.toNat, z.toNat, panel.toNat, cell.toNat⟩ [] := by
  simp [readPosition, readFixed, Symbol.bytes, Symbol.ofList, field, ofBytes]

theorem readTimetableItem_bytes (days h m a : Byte) :
    readTimetableItem [days, h, m, a] = .got ⟨days, h.toNat, m.toNat, a.toNat⟩ [] := by
  simp [readTimetableItem, readFixed, field, ofBytes, byteAt]

theorem readSymbols_flatMap (syms : List Symbol) : readSymbols syms.length (syms.flatMap Symbol.bytes) = syms := by
  induction syms with
  | nil => rfl
  | cons x syms ih =>
    have hlength : x.bytes.length = 5 := rfl
    rw [List.length_cons, readSymbols, List.flatMap_cons, List.take_left' hlength, List.drop_left' hlength, ih]
    rfl

theorem readPage_bytes (n : Byte) {syms : List Symbol} (h : syms.length ≤ 16) :
    readPage ([n, BitVec.ofNat 8 syms.length] ++ syms.flatMap Symbol.bytes) = .got (n.toNat, syms) [] := by
  have hcount := countByte_toNat h (by omega)
  have hlength : (syms.flatMap Symbol.bytes).length = 5 * syms.length := by
    simp [List.length_flatMap, Symbol.bytes, Nat.mul_comm]
  have hdrop : (syms.flatMap Symbol.bytes).drop (5 * syms.length) = [] := List.drop_of_length_le hlength.le
  simp only [List.cons_append, List.nil_append, readPage, hcount, hdrop, readSymbols_flatMap]
  rw [if_neg (by omega), if_neg (by omega)]

theorem readPage_of_manyRows (n : Byte) {k : Byte} (h : 16 < k.toNat) : readPage [n, k] = .bad := by
  simp [readPage, h]

/-! ### Zones (R95, R176) -/

section
variable {p : Part}

theorem Part.takeZone_of_given {x : ZoneItem}
    (h : 16 ≤ x.number ∨ ∃ hn : x.number < 16, ⟨x.number, hn⟩ ∈ p.loader.zonesGiven) :
    p.takeZone x = p.warnIf true := by
  unfold Part.takeZone
  split
  · rename_i hn
    rcases h with h | ⟨_, h⟩
    · omega
    · exact if_pos (List.contains_iff_mem.mpr h)
  · rfl

theorem Part.takeZone_of_new {x : ZoneItem} (hn : x.number < 16) (h : ⟨x.number, hn⟩ ∉ p.loader.zonesGiven) :
    p.takeZone x = ({ p with
      board := { p.board with
        zones := p.board.zones.set x.number
          { fixed := x.fixed, held := false, group := holdGroupOf x.group, refreshOwed := false } hn }
      loader := { p.loader with zonesGiven := ⟨x.number, hn⟩ :: p.loader.zonesGiven } } : Part).warnIf
      (decide (16 ≤ x.group ∧ x.group ≤ 254)) := by
  rw [Part.takeZone, dif_pos hn, if_neg fun hc => h (List.contains_iff_mem.mp hc), Bool.decide_and]

theorem Part.itemRead_zone {n fl g : Byte} (hdue : p.loader.current = some .zones) (hbuf : p.loader.buffer = []) :
    (∀ h : n.toNat < 16, ⟨n.toNat, h⟩ ∉ p.loader.zonesGiven →
      p.itemRead [n, fl, g] =
        { p.afterItem .zones [n, fl, g] (decide (16 ≤ g.toNat ∧ g.toNat ≤ 254)) with
          loader := { (p.afterItem .zones [n, fl, g] (decide (16 ≤ g.toNat ∧ g.toNat ≤ 254))).loader with
            zonesGiven := ⟨n.toNat, h⟩ :: p.loader.zonesGiven }
          board := { p.board with
            zones := p.board.zones.set n.toNat
              { fixed := fl.getLsbD 0, held := false, refreshOwed := false, group := holdGroupOf g.toNat } h } }) ∧
    (16 ≤ n.toNat ∨ (∃ h : n.toNat < 16, ⟨n.toNat, h⟩ ∈ p.loader.zonesGiven) →
      p.itemRead [n, fl, g] = p.afterItem .zones [n, fl, g] true) := by
  have hread : readItem .zones [n, fl, g] = .got (Part.takeZone ⟨n.toNat, fl.getLsbD 0, g.toNat⟩) [] := by
    simp only [readItem, readZone_bytes]
  refine ⟨fun hn hnew => ?_, fun h => ?_⟩
  · rw [Part.itemRead_of_got hdue hbuf hread, Part.takeZone_of_new hn]
    · cases decide (16 ≤ g.toNat ∧ g.toNat ≤ 254) <;> rfl
    · exact hnew
  · exact Part.itemRead_of_dropped hdue hbuf hread (Part.takeZone_of_given h)

end

/-! ### Positions (R93, R176) -/

section
variable {p : Part} {x : PositionItem} {l : Layout}

/-- R176: the place that an accepted position takes on the chain. -/
def PositionItem.place (x : PositionItem) (record : Option Nat) (h : x.zone < 16) : Position :=
  { record := record, layout := x.layout, zone := ⟨x.zone, h⟩, panel := x.panel, firstCell := x.firstCell,
    flash := false }

theorem Part.acceptPosition_of_layoutless (h : p.board.layout x.layout = none) : p.acceptPosition x = none := by
  rw [Part.acceptPosition, h]

theorem Part.acceptPosition_of_outside (hl : p.board.layout x.layout = some l)
    (h : 16 ≤ x.zone ∨ 128 ≤ x.panel ∨ 80 < x.firstCell + l.width) : p.acceptPosition x = none := by
  have hplace : ¬ (x.panel < Config.panels ∧ x.firstCell + l.width ≤ Config.panelCells) ∨ ¬ x.zone < 16 := by
    simp only [Config.panels, Config.panelCells]
    omega
  rw [Part.acceptPosition, hl]
  simp only
  split
  · rfl
  · split
    · rw [if_neg (hplace.resolve_right (not_not_intro ‹_›))]
    · rfl

theorem Part.acceptPosition_of_unheld (hl : p.board.layout x.layout = some l)
    (h : p.positionRecord l x.symbol = none) : p.acceptPosition x = none := by
  rw [Part.acceptPosition, hl]
  simp only [h]

theorem Part.acceptPosition_of_placed {record : Option Nat} (hl : p.board.layout x.layout = some l)
    (hr : p.positionRecord l x.symbol = some record) (hz : x.zone < 16) (hp : x.panel ≤ 127)
    (hc : x.firstCell + l.width ≤ 80) : p.acceptPosition x = some (x.place record hz) := by
  have hplace : x.panel < Config.panels ∧ x.firstCell + l.width ≤ Config.panelCells :=
    ⟨Nat.lt_succ_of_le hp, hc⟩
  rw [Part.acceptPosition, hl]
  simp only [hr]
  rw [dif_pos hz, if_pos hplace]
  rfl

theorem Part.takePosition_of_accepted {pos : Position} (h : p.acceptPosition x = some pos) :
    p.takePosition x = { p with board := { p.board with positions := p.board.positions ++ [pos] } } := by
  rw [Part.takePosition, h]

theorem Part.takePosition_of_dropped (h : p.acceptPosition x = none) : p.takePosition x = p.warnIf true := by
  rw [Part.takePosition, h]

/-- The judgement of a position does not read the Loader's own state. -/
theorem Part.acceptPosition_onLoader (x : PositionItem) (f : Loader → Loader) (p : Part) :
    (p.onLoader f).acceptPosition x = p.acceptPosition x := rfl

theorem Part.itemRead_position {sym : Symbol} {l z panel cell : Byte} (hdue : p.loader.current = some .positions)
    (hbuf : p.loader.buffer = []) :
    (p.acceptPosition ⟨sym, l.toNat, z.toNat, panel.toNat, cell.toNat⟩ = none →
      p.itemRead (sym.bytes ++ [l, z, panel, cell]) =
        p.afterItem .positions (sym.bytes ++ [l, z, panel, cell]) true) ∧
    ∀ pos, p.acceptPosition ⟨sym, l.toNat, z.toNat, panel.toNat, cell.toNat⟩ = some pos →
      p.itemRead (sym.bytes ++ [l, z, panel, cell]) =
        { p.afterItem .positions (sym.bytes ++ [l, z, panel, cell]) false with
          board := { p.board with positions := p.board.positions ++ [pos] } } := by
  have hread : readItem .positions (sym.bytes ++ [l, z, panel, cell]) =
      .got (Part.takePosition ⟨sym, l.toNat, z.toNat, panel.toNat, cell.toNat⟩) [] := by
    simp only [readItem, readPosition_bytes]
  refine ⟨fun h => Part.itemRead_of_dropped hdue hbuf hread (Part.takePosition_of_dropped h), fun pos h => ?_⟩
  rw [Part.itemRead_of_got hdue hbuf hread,
    Part.takePosition_of_accepted ((Part.acceptPosition_onLoader _ _ p).trans h)]
  rfl

end

/-! ### Pages (R176) -/

section
variable {p : Part}

theorem Part.itemRead_page {n : Byte} {syms : List Symbol} (hdue : p.loader.current = some .pages)
    (hbuf : p.loader.buffer = []) (hrows : syms.length ≤ 16) :
    let bytes := [n, BitVec.ofNat 8 syms.length] ++ syms.flatMap Symbol.bytes
    (1 ≤ n.toNat → n.toNat ≤ 32 → (∀ pg ∈ p.pages, pg.number ≠ n.toNat) →
      p.itemRead bytes = { p.afterItem .pages bytes (syms.any fun x => (p.lookup x).isNone) with
        pages := p.pages ++ [⟨n.toNat, syms.map p.lookup⟩] }) ∧
    (n = 0 ∨ 32 < n.toNat ∨ (∃ pg ∈ p.pages, pg.number = n.toNat) →
      p.itemRead bytes = p.afterItem .pages bytes true) := by
  intro bytes
  have hread : readItem .pages bytes = .got (Part.takePage n.toNat syms) [] := by
    simp only [readItem, bytes, readPage_bytes n hrows]
  have hgiven : (p.pages.any fun pg => pg.number == n.toNat) = true ↔ ∃ pg ∈ p.pages, pg.number = n.toNat := by
    simp
  refine ⟨fun hlo hhi hnew => ?_, fun h => ?_⟩
  · have hok : ¬ (n.toNat = 0 ∨ 32 < n.toNat ∨ (p.pages.any fun pg => pg.number == n.toNat) = true) := by
      rw [hgiven]
      rintro (h | h | ⟨pg, hpg, h⟩)
      · omega
      · omega
      · exact hnew pg hpg h
    have hmissing : (syms.map fun x => p.lookup x).any Option.isNone = syms.any fun x => (p.lookup x).isNone :=
      List.any_map
    have htake (f : Loader → Loader) : (p.onLoader f).takePage n.toNat syms =
        ({ p.onLoader f with pages := p.pages ++ [⟨n.toNat, syms.map p.lookup⟩] } : Part).warnIf
          (syms.any fun x => (p.lookup x).isNone) := by
      rw [← hmissing]
      exact if_neg hok
    rw [Part.itemRead_of_got hdue hbuf hread, htake]
    cases syms.any fun x => (p.lookup x).isNone <;> rfl
  · refine Part.itemRead_of_dropped hdue hbuf hread (if_pos ?_)
    rw [byte_eq_zero_iff, ← hgiven] at h
    exact h

end

/-! ### The Timetable (R85, R176) -/

theorem TimetableAction.ofCode_eq_none {n : Nat} (h : n = 0 ∨ 5 < n) : TimetableAction.ofCode n = none := by
  rcases h with rfl | h
  · rfl
  · obtain ⟨k, rfl⟩ := Nat.exists_eq_add_of_le' h
    rfl

theorem timetableField_of_given {limit n : Nat} (h : n < limit) : timetableField limit n = some (some n) :=
  if_pos h

theorem timetableField_of_any {limit : Nat} (h : limit ≤ 255) : timetableField limit 255 = some none := by
  rw [timetableField, if_neg (by omega), if_pos rfl]

theorem timetableField_of_outside {limit n : Nat} (h : limit ≤ n) (hany : n ≠ 255) : timetableField limit n = none := by
  rw [timetableField, if_neg (by omega), if_neg hany]

theorem byte_toNat_eq_any (b : Byte) : b.toNat = 255 ↔ b = 255 := by
  rw [← BitVec.toNat_inj]
  rfl

/-- Table 10-5: an hour or minute byte below its limit, or ANY. -/
theorem timetableField_byte {limit : Nat} (hlimit : limit ≤ 255) {b : Byte} (h : b.toNat < limit ∨ b = 255) :
    timetableField limit b.toNat = some (if b = 255 then none else some b.toNat) := by
  by_cases hany : b = 255
  · rw [if_pos hany, (byte_toNat_eq_any b).mpr hany, timetableField_of_any hlimit]
  · rw [if_neg hany, timetableField_of_given (h.resolve_right hany)]

theorem timetableField_byte_outside {limit : Nat} {b : Byte} (h : limit ≤ b.toNat) (hany : b ≠ 255) :
    timetableField limit b.toNat = none :=
  timetableField_of_outside h fun hb => hany ((byte_toNat_eq_any b).mp hb)

section
variable {p : Part} {x : TimetableItem}

theorem Part.takeTimetable_of_entered {hour minute : Option Nat} {act : TimetableAction}
    (hh : timetableField 24 x.hour = some hour) (hm : timetableField 60 x.minute = some minute)
    (ha : TimetableAction.ofCode x.action = some act) :
    p.takeTimetable x = { p with
      clock := { p.clock with timetable := p.clock.timetable ++ [⟨x.weekdays, hour, minute, act⟩] } } := by
  simp only [Part.takeTimetable, hh, hm, ha]

theorem Part.takeTimetable_of_dropped
    (h : timetableField 24 x.hour = none ∨ timetableField 60 x.minute = none ∨ TimetableAction.ofCode x.action = none) :
    p.takeTimetable x = p.warnIf true := by
  unfold Part.takeTimetable
  split
  · rename_i hh hm ha
    rw [hh, hm, ha] at h
    exact absurd h (by simp)
  · rfl

theorem readItem_timetable (days h m a : Byte) : readItem .timetable [days, h, m, a] =
    .got (Part.takeTimetable ⟨days, h.toNat, m.toNat, a.toNat⟩) [] := by
  simp only [readItem, readTimetableItem_bytes]

theorem Part.itemRead_timetable {days h m a : Byte} (hdue : p.loader.current = some .timetable)
    (hbuf : p.loader.buffer = []) :
    (∀ act, TimetableAction.ofCode a.toNat = some act → h.toNat < 24 ∨ h = 255 → m.toNat < 60 ∨ m = 255 →
      p.itemRead [days, h, m, a] = { p.afterItem .timetable [days, h, m, a] false with
        clock := { p.clock with timetable := p.clock.timetable ++
          [⟨days, if h = 255 then none else some h.toNat, if m = 255 then none else some m.toNat, act⟩] } }) ∧
    (a = 0 ∨ 5 < a.toNat ∨ (24 ≤ h.toNat ∧ h ≠ 255) ∨ (60 ≤ m.toNat ∧ m ≠ 255) →
      p.itemRead [days, h, m, a] = p.afterItem .timetable [days, h, m, a] true) := by
  have hread := readItem_timetable days h m a
  refine ⟨fun act hact hh hm => ?_, fun hout => ?_⟩
  · rw [Part.itemRead_of_got hdue hbuf hread, Part.takeTimetable_of_entered (timetableField_byte (by omega) hh)
      (timetableField_byte (by omega) hm) hact]
    rfl
  · refine Part.itemRead_of_dropped hdue hbuf hread (Part.takeTimetable_of_dropped ?_)
    rw [byte_eq_zero_iff, ← or_assoc] at hout
    rcases hout with ha | ⟨hh, hany⟩ | ⟨hm, hany⟩
    · exact .inr (.inr (TimetableAction.ofCode_eq_none ha))
    · exact .inl (timetableField_byte_outside hh hany)
    · exact .inr (.inl (timetableField_byte_outside hm hany))

end

/-- Settles O18: each item by the grounds of R176 on which it is entered or dropped. -/
theorem tableItemsJudged : Obligations.TableItemsJudged := by
  intro s hitems hbuf hi hl
  refine ⟨fun n fl g hz => ?_, fun hz sym l z panel cell hp => ?_, fun hz hp hg => ⟨fun n syms hrows => ?_, ?_⟩,
    fun hz hp hg ht days h m a => ?_⟩
  · obtain ⟨hnew, hdrop⟩ := Part.itemRead_zone (n := n) (fl := fl) (g := g) (Loader.current_zones hitems hi hl hz) hbuf
    exact ⟨fun hn h => next_onPart (hnew hn h), fun h => next_onPart (hdrop h)⟩
  · obtain ⟨hdrop, htake⟩ := Part.itemRead_position (sym := sym) (l := l) (z := z) (panel := panel) (cell := cell)
      (Loader.current_positions hitems hi hl hz hp) hbuf
    refine ⟨fun hnone => next_onPart (hdrop (Part.acceptPosition_of_layoutless hnone)), fun lay hlay => ?_⟩
    refine ⟨fun hout => next_onPart (hdrop (Part.acceptPosition_of_outside hlay hout)), ?_, fun hz16 hpanel hcell => ?_⟩
    · rintro ⟨fs, rfl⟩ hsym
      exact next_onPart (hdrop (Part.acceptPosition_of_unheld hlay (by rw [Part.positionRecord, hsym]; rfl)))
    · refine ⟨?_, ?_⟩
      · rintro text rfl
        exact next_onPart (htake _ (Part.acceptPosition_of_placed hlay rfl hz16 hpanel hcell))
      · rintro fs i rfl hsym
        exact next_onPart (htake _ (Part.acceptPosition_of_placed hlay (by rw [Part.positionRecord, hsym]; rfl) hz16
          hpanel hcell))
  · obtain ⟨htake, hdrop⟩ := Part.itemRead_page (n := n) (Loader.current_pages hitems hi hl hz hp hg) hbuf hrows
    exact ⟨fun hlo hhi hnew => next_onPart (htake hlo hhi hnew), fun h => next_onPart (hdrop h)⟩
  · intro n k hk
    have hread : readItem .pages [n, k] = .bad := by simp only [readItem, readPage_of_manyRows n hk]
    exact next_onPart (Part.itemRead_of_bad (Loader.current_pages hitems hi hl hz hp hg) hbuf hread)
  · obtain ⟨htake, hdrop⟩ := Part.itemRead_timetable (days := days) (h := h) (m := m) (a := a)
      (Loader.current_timetable hitems hi hl hz hp hg ht) hbuf
    exact ⟨fun act ha hh hm => next_onPart (htake act ha hh hm), fun hout => next_onPart (hdrop hout)⟩

end Sys2Proof.Machine
end

section
/-! The step and the queue of commands (Section 0.3, log 1). -/

namespace Sys2Proof.Machine

/-- The command in front is run on the state with the queue's rest. -/
theorem step_of_pending_cons {s : State} {c : Instr} {rest : List Instr} (h : s.pending = c :: rest) :
    step s = exec c { s with pending := rest } := by
  simp only [step, h]

/-- An empty queue idles. -/
theorem step_of_pending_nil {s : State} (h : s.pending = []) : step s = .next s := by
  simp only [step, h]

/-- Settles O1: each of the two forms of the queue by its equation of `step`. -/
theorem stepTakesFront : Obligations.StepTakesFront :=
  ⟨fun _ _ _ => step_of_pending_cons rfl, fun _ => step_of_pending_nil⟩

end Sys2Proof.Machine
end
